-- ==== Sys2Proof/Word.lean ====
section
/-! DEFINITION. The words and bytes that cross the request port (spec/11_message_and_record_formats.md). -/

namespace Sys2Proof

/-- A 32-bit word of the request port; bit 31 is the most significant bit. -/
abbrev Word := BitVec 32

/-- A byte: a client number, a kind code, a character of a handoff block or of an encoded program. -/
abbrev Byte := BitVec 8

end Sys2Proof
end

