-- ==== Sys2Proof/Config.lean ====
section
/-! DEFINITION. What the part fixes for good (its capacities, R200) and the values the manual leaves open, as
constants without a body: nothing in Lean can evaluate them, so every theorem holds whatever they are. -/

namespace Sys2Proof.Config

/-- Record slots 0 to 4095 (R9, R200). -/
def recordSlots : Nat := 4096
/-- Issue tickets 0 to 127 (R84, R200). -/
def tickets : Nat := 128
/-- Binding entries 0 to 1023 (R127, R200). -/
def bindingEntries : Nat := 1024
/-- Messages of the inbound queue (R186, R200). -/
def inboundPlaces : Nat := 16
/-- Messages of the outbound queue (R187, R200). -/
def outboundPlaces : Nat := 32
/-- Free outbound places the port needs before it takes a request (R188). -/
def takingPlaces : Nat := 4
/-- Points of a gauging session (R60). -/
def maxPoints : Nat := 16
/-- Entries a listing response carries at most (R20, R89, R123, R140). -/
def pageEntries : Nat := 12
/-- Steps of a rendering program (R145). -/
def programSteps : Nat := 48
/-- Bytes of an encoded program (R145). -/
def programBytes : Nat := 192
/-- Characters of a handoff block (R161). -/
def blockChars : Nat := 128

/-- FREE VALUE (log 4). The order in which events that fall on one second of the reference clock are taken: the
manual says that each is taken whole against the state the others left, and gives no order among them. The argument is
the model's counter `Hall.freeIndex`; the value picks a permutation (`Machine.arrange`). -/
opaque coincidence : Nat → Nat

/-- FREE VALUE (log 5). What the body length field of a header reads when a body has more than 63 words, which the
field's six bits cannot hold (R203); QUERY-POCKET, QUERY-CHANNEL and QUERY-ISSUE can carry such a body. -/
opaque longBodyLength : Nat → BitVec 6

/-- FREE VALUE (log 6). Whether the validation walk fails a SKIP-IF-ZERO with SKIP-SPAN when its span runs past a
LITERAL whose count byte is out of range and the bytes behind that count byte could hold as many steps as it runs past,
none of them a LOAD or an END: the manual does not split those bytes into steps (R149, R207). The arguments are the steps it runs past the LITERAL and
the bytes from the count byte on. -/
opaque skipPastUnreadable : Nat → List Byte → Bool

end Sys2Proof.Config
end

