-- ==== Sys2Proof/Syntax.lean ====
section
/-! DEFINITION. The commands of the Corjin 720: one constructor of `Instr` for every row of spec/opcode_table.json.

A request command carries the sender's client number and tag (`Header`) and the fields of its body in the order of
spec/11_message_and_record_formats.md (R204): a number as the word that carries it (whatever its value: the owning
unit judges its range), a coded field as the value it codes, a yes or no choice as a `Bool`. A body whose form is
wrong is spelled with `malformedMessage`, which carries the words themselves. -/

namespace Sys2Proof

/-- What a request's header carries beside its kind code and body length (R203). -/
structure Header where
  /-- The client number the link processor gave the connection (bits 23 to 16 of word 0). -/
  client : Byte
  /-- The tag, returned unchanged in the response (word 1). -/
  tag : Word
  deriving DecidableEq, Repr

/-- The 50 requests of the summary in 10.9. -/
inductive Kind where
  | enrol | retire | hold | releaseHold | moveBin | queryTool | findClass
  | defineClass | queryClass | deleteClass | stats
  | calGeometry | calCorrection | configureStation | queryStation | holdByCalibration
  | gaugeBegin | gaugePoint | gaugeEnd | gaugeAbort
  | issue | cancel | returnTool | setIssueMode | queryIssue | queryTicket
  | configureChannel | clearChannel | handover | queryChannel | queryHandover
  | mount | dismount | protect | unprotect | adjust | resendHandoff | queryPocket
  | storeProgram | queryProgram | renderTest
  | usage | setSweep
  | setClient | queryClient | attention | setEnables | restart | wipe | identify
  deriving DecidableEq, Repr

/-- The priority class of a ticket, in order of precedence (R86). -/
inductive Band where
  | stop | plan | stock
  deriving DecidableEq, Repr

/-- The life measure of a class (2.1). -/
inductive LifeKind where
  | time | count
  deriving DecidableEq, Repr

/-- A location as ENROL, MOVE-BIN and RETURN carry it: the fields of the location word of a DRAWER or a SHELF
(R204), whatever their values. -/
inductive CribLoc where
  | drawer (channel bin : Byte)
  | shelf (position : BitVec 16)
  deriving DecidableEq, Repr

/-- A trim: a sign and a magnitude 0 to 15 (R48), coded by sign and magnitude (R205). -/
structure Trim where
  minus : Bool
  magnitude : BitVec 4
  deriving DecidableEq, Repr

/-- The shape fields of a DEFINE-CLASS, in the order of the table of 2.1. -/
structure ShapeWords where
  nominalLength : Word
  nominalRadius : Word
  gradeBase : Word
  gradeStep : Word
  topGrade : Word
  bandLow : Word
  bandHigh : Word
  runoutLimit : Word
  lifeKind : LifeKind
  fullLife : Word
  deriving DecidableEq, Repr

/-- The policy fields of a DEFINE-CLASS, in the order of the table of 2.1. -/
structure PolicyWords where
  warnLevel : Word
  regrindLoss : Word
  maxRegrinds : Word
  validity : Word
  outLimit : Word
  waitLimit : Word
  promotionAge : Word
  minStock : Word
  autoReplace : Bool
  deriving DecidableEq, Repr

/-- The six values of a CAL-GEOMETRY (R47). -/
structure GeometryWords where
  zPitch : Word
  xPitch : Word
  zZero : Word
  xZero : Word
  zRef : Word
  xRef : Word
  deriving DecidableEq, Repr

/-- The four values of a CAL-CORRECTION (R48). -/
structure CorrectionWords where
  zTrim : Trim
  xTrim : Trim
  thermal : Word
  driftLimit : Word
  deriving DecidableEq, Repr

/-- The body of ISSUE (the table in R204). -/
structure IssueForm where
  /-- Word 1 bit 2: `target` is a tool number, else a class number. -/
  byTool : Bool
  target : Word
  band : Band
  notify : Bool
  /-- The low and the high grade, when word 1 bit 4 is set. -/
  range : Option (BitVec 4 × BitVec 4)
  /-- The destination client, when word 1 bit 16 is set. -/
  dest : Option Byte
  /-- The life needed; 0 means absent. -/
  life : Word
  deriving DecidableEq, Repr

/-- The role a SET-CLIENT carries, with that role's fields (R192). -/
inductive ClientForm where
  | none
  | toolroom
  | presetter (station : Word)
  | crib
  | machine (program pockets severity offset : Word)
  deriving DecidableEq, Repr

/-- The commands: a request the link processor presents, a word it writes or a message it reads, a drawer-line
event, a timer expiry, a reset or a pending start. One constructor per row of spec/opcode_table.json. -/
inductive Instr where
  -- record store (chapter 1)
  | enrol (h : Header) (tool cls : Word) (loc : CribLoc) (life : Option Word)
  | retire (h : Header) (tool : Word)
  | hold (h : Header) (tool : Word)
  | releaseHold (h : Header) (tool : Word) (regrind : Bool)
  | moveBin (h : Header) (tool : Word) (loc : CribLoc)
  | queryTool (h : Header) (tool : Word)
  | findClass (h : Header) (cls start : Word)
  -- class table (chapter 2)
  | defineClass (h : Header) (cls : Word) (shape : ShapeWords) (policy : PolicyWords)
  | queryClass (h : Header) (cls : Word)
  | deleteClass (h : Header) (cls : Word)
  | stats (h : Header) (cls : Word) (clear : Bool)
  -- presetting unit (chapters 3 and 4)
  | calGeometry (h : Header) (station : Word) (values : GeometryWords)
  | calCorrection (h : Header) (station : Word) (values : CorrectionWords)
  | configureStation (h : Header) (station window : Word)
  | queryStation (h : Header) (station : Word)
  | holdByCalibration (h : Header) (station generation : Word)
  | gaugeBegin (h : Header) (tool : Word)
  | gaugePoint (h : Header) (z x : Word)
  | gaugeEnd (h : Header) (temperature : Word)
  | gaugeAbort (h : Header)
  -- issue unit (chapter 5)
  | issue (h : Header) (form : IssueForm)
  | cancel (h : Header) (ticket : Word) (tag : Option Word)
  | returnTool (h : Header) (tool : Word) (loc : CribLoc)
  | setIssueMode (h : Header) (on : Bool)
  | queryIssue (h : Header) (cls start : Word)
  | queryTicket (h : Header) (ticket : Word)
  -- drawer unit (chapter 6)
  | configureChannel (h : Header) (channel : Word) (enabled : Bool) (openWindow takeWindow : Word)
  | clearChannel (h : Header) (channel : Word)
  | handover (h : Header) (ticket : Word) (tag : Option Word)
  | queryChannel (h : Header) (channel start : Word)
  | queryHandover (h : Header) (start : Word)
  -- pocket unit (chapter 7)
  | mount (h : Header) (tool pocket : Word)
  | dismount (h : Header) (pocket : Word)
  | protect (h : Header) (pocket : Word)
  | unprotect (h : Header) (pocket : Word)
  | adjust (h : Header) (tool lengthDelta radiusDelta : Word)
  /-- From a MACHINE client the body is the pocket alone; from a TOOLROOM client the machine client and the pocket. -/
  | resendHandoff (h : Header) (machine : Option Word) (pocket : Word)
  | queryPocket (h : Header) (machine pocket : Word)
  -- rendering unit (chapter 8)
  | storeProgram (h : Header) (program : Byte) (bytes : List Byte)
  | queryProgram (h : Header) (program : Word)
  | renderTest (h : Header) (program tool offset : Word)
  -- life unit (chapter 9)
  | usage (h : Header) (pocket amount : Word)
  | setSweep (h : Header) (period : Option Word)
  -- request port (chapter 10)
  | setClient (h : Header) (client : Word) (form : ClientForm)
  | queryClient (h : Header) (client : Word)
  /-- Bit i of the choice clears the i-th flag of the table of R195. -/
  | attention (h : Header) (choice : BitVec 7)
  | setEnables (h : Header) (enables : BitVec 7)
  | restart (h : Header)
  | wipe (h : Header)
  | identify (h : Header)
  /-- A whole message given by its words, for a message whose form is wrong (R189). -/
  | malformedMessage (words : List Word)
  -- events of the port, the drawer lines, the timers and the starts
  | messageRead
  | opened (channel : Fin 16)
  | closed (channel : Fin 16)
  | openWindowExpiry (channel : Fin 16)
  | takeWindowExpiry (channel : Fin 16)
  | gaugeWindowExpiry (station : Fin 4)
  | sweep
  /-- The reset input is released: RETAIN as it reads then, and the sixteen CLOSED inputs (bit i set: input i high,
  the drawer shut). -/
  | reset (retain : Bool) (closedInputs : BitVec 16)
  | pendingStart
  | messageWordWritten (word : Word)
  deriving DecidableEq, Repr

/-- The request a command presents, or none for `malformedMessage` and the events. -/
def Instr.kind : Instr → Option Kind
  | .enrol .. => some .enrol
  | .retire .. => some .retire
  | .hold .. => some .hold
  | .releaseHold .. => some .releaseHold
  | .moveBin .. => some .moveBin
  | .queryTool .. => some .queryTool
  | .findClass .. => some .findClass
  | .defineClass .. => some .defineClass
  | .queryClass .. => some .queryClass
  | .deleteClass .. => some .deleteClass
  | .stats .. => some .stats
  | .calGeometry .. => some .calGeometry
  | .calCorrection .. => some .calCorrection
  | .configureStation .. => some .configureStation
  | .queryStation .. => some .queryStation
  | .holdByCalibration .. => some .holdByCalibration
  | .gaugeBegin .. => some .gaugeBegin
  | .gaugePoint .. => some .gaugePoint
  | .gaugeEnd .. => some .gaugeEnd
  | .gaugeAbort .. => some .gaugeAbort
  | .issue .. => some .issue
  | .cancel .. => some .cancel
  | .returnTool .. => some .returnTool
  | .setIssueMode .. => some .setIssueMode
  | .queryIssue .. => some .queryIssue
  | .queryTicket .. => some .queryTicket
  | .configureChannel .. => some .configureChannel
  | .clearChannel .. => some .clearChannel
  | .handover .. => some .handover
  | .queryChannel .. => some .queryChannel
  | .queryHandover .. => some .queryHandover
  | .mount .. => some .mount
  | .dismount .. => some .dismount
  | .protect .. => some .protect
  | .unprotect .. => some .unprotect
  | .adjust .. => some .adjust
  | .resendHandoff .. => some .resendHandoff
  | .queryPocket .. => some .queryPocket
  | .storeProgram .. => some .storeProgram
  | .queryProgram .. => some .queryProgram
  | .renderTest .. => some .renderTest
  | .usage .. => some .usage
  | .setSweep .. => some .setSweep
  | .setClient .. => some .setClient
  | .queryClient .. => some .queryClient
  | .attention .. => some .attention
  | .setEnables .. => some .setEnables
  | .restart .. => some .restart
  | .wipe .. => some .wipe
  | .identify .. => some .identify
  | .malformedMessage .. => none
  | .messageRead => none
  | .opened .. => none
  | .closed .. => none
  | .openWindowExpiry .. => none
  | .takeWindowExpiry .. => none
  | .gaugeWindowExpiry .. => none
  | .sweep => none
  | .reset .. => none
  | .pendingStart => none
  | .messageWordWritten .. => none

/-- The header of a request command. -/
def Instr.header : Instr → Option Header
  | .enrol h .. | .retire h .. | .hold h .. | .releaseHold h .. | .moveBin h .. | .queryTool h ..
  | .findClass h .. | .defineClass h .. | .queryClass h .. | .deleteClass h .. | .stats h ..
  | .calGeometry h .. | .calCorrection h .. | .configureStation h .. | .queryStation h ..
  | .holdByCalibration h .. | .gaugeBegin h .. | .gaugePoint h .. | .gaugeEnd h .. | .gaugeAbort h
  | .issue h .. | .cancel h .. | .returnTool h .. | .setIssueMode h .. | .queryIssue h ..
  | .queryTicket h .. | .configureChannel h .. | .clearChannel h .. | .handover h ..
  | .queryChannel h .. | .queryHandover h .. | .mount h .. | .dismount h .. | .protect h ..
  | .unprotect h .. | .adjust h .. | .resendHandoff h .. | .queryPocket h .. | .storeProgram h ..
  | .queryProgram h .. | .renderTest h .. | .usage h .. | .setSweep h .. | .setClient h ..
  | .queryClient h .. | .attention h .. | .setEnables h .. | .restart h | .wipe h | .identify h =>
    some h
  | .malformedMessage .. | .messageRead | .opened .. | .closed .. | .openWindowExpiry ..
  | .takeWindowExpiry .. | .gaugeWindowExpiry .. | .sweep | .reset .. | .pendingStart
  | .messageWordWritten .. => none

end Sys2Proof
end

