-- ==== Sys2Proof/Machine/State.lean ====
section
/-! DEFINITION. The state of the Corjin 720 as plain data, its reset value, and the reasons a step can stop. -/

namespace Sys2Proof.Machine

/-- Sparse data by number: entries in strictly rising order of their key. What an unlisted key stands for is said
where the table is a field. The operations are in Machine/Table.lean. -/
abbrev Table (α : Type) := List (Nat × α)

/-! ### Tool records (chapter 1) -/

/-- Why a record was taken out of service (1.1). -/
inductive HoldReason where
  | rejected | stale | worn | audit | suspect | manual
  deriving DecidableEq, Repr

/-- The state a GAUGING record returns to; GAUGE-BEGIN admits no other (R62), and a hold keeps its reason (R1). -/
inductive Resume where
  | new
  | ready
  | held (reason : HoldReason)
  deriving DecidableEq, Repr

/-- The seven record states (1.2). The hold reason is present exactly in HELD and the resume state exactly in
GAUGING (R1), so each stands inside its state. -/
inductive RecordStatus where
  | new
  | ready
  | gauging (resume : Resume)
  | promised
  | out
  | mounted
  | held (reason : HoldReason)
  deriving DecidableEq, Repr

/-- Why a measurement was rejected (R73). -/
inductive RejectCause where
  | range | length | radius | runout
  deriving DecidableEq, Repr

/-- Where a tool is (R2). -/
inductive Location where
  | none
  | drawer (channel : Fin 16) (bin : Fin 64)
  | shelf (position : Fin 4096)
  | pocket (client pocket : Nat)
  deriving DecidableEq, Repr

/-- Tool geometry: lengths in 0.1 µm units, grade 0 to 15. -/
structure Geometry where
  length : Int
  radius : Int
  runout : Int
  grade : Nat
  deriving DecidableEq, Repr

/-- How a geometry was measured: the station, its calibration generation, the temperature used in 0.01 °C and the
age of the measurement in sweeps. -/
structure Measurement where
  station : Fin 4
  generation : Nat
  temperature : Int
  age : Nat
  deriving DecidableEq, Repr

/-- A tool record (the table of 1.1). Its slot is its key in `Hall.records`. Geometry and measurement are written and
cleared together (R1), so they stand in one optional pair. -/
structure Record where
  tool : Nat
  cls : Nat
  status : RecordStatus
  rejectCause : Option RejectCause
  location : Location
  measured : Option (Geometry × Measurement)
  life : Nat
  regrinds : Nat
  warned : Bool
  ended : Bool
  outAge : Nat
  overdue : Bool
  dest : Option Nat
  opened : Bool
  deriving DecidableEq, Repr

/-! ### Tool classes (chapter 2) -/

/-- The shape fields of a class (2.1). -/
structure Shape where
  nominalLength : Int
  nominalRadius : Int
  gradeBase : Int
  gradeStep : Int
  topGrade : Nat
  bandLow : Int
  bandHigh : Int
  runoutLimit : Int
  lifeKind : LifeKind
  fullLife : Nat
  deriving DecidableEq, Repr

/-- The policy fields of a class (2.1). -/
structure Policy where
  warnLevel : Nat
  regrindLoss : Nat
  maxRegrinds : Nat
  validity : Nat
  outLimit : Nat
  waitLimit : Nat
  promotionAge : Nat
  minStock : Nat
  autoReplace : Bool
  deriving DecidableEq, Repr

/-- A counter from 0 to 4,294,967,295 with its sticky wrapped mark (R36). -/
structure Counter where
  count : Word
  wrapped : Bool
  deriving DecidableEq, Repr

/-- A defined class entry (2.1): shape, policy and kept state. -/
structure ClassEntry where
  shape : Shape
  policy : Policy
  usable : Nat
  low : Bool
  issues : Counter
  rejects : Counter
  deriving DecidableEq, Repr

/-! ### Presetting stations and gauging sessions (chapters 3 and 4) -/

/-- The state a station returns to when a session ends without a verdict (R43). -/
inductive EntryState where
  | ready | drift
  deriving DecidableEq, Repr

/-- The station states; the entry state is present in GAUGING only (R41). -/
inductive StationState where
  | uncal
  | ready
  | drift
  | gauging (entry : EntryState)
  deriving DecidableEq, Repr

/-- The geometry half of a calibration set (R47). -/
structure GeometryHalf where
  zPitch : Int
  xPitch : Int
  zZero : Int
  xZero : Int
  zRef : Int
  xRef : Int
  deriving DecidableEq, Repr

/-- The correction half of a calibration set (R48). -/
structure CorrectionHalf where
  zTrim : Trim
  xTrim : Trim
  thermal : Int
  driftLimit : Int
  deriving DecidableEq, Repr

/-- An encoder reading: the Z count and the X count (R60). -/
structure Point where
  z : Int
  x : Int
  deriving DecidableEq, Repr

/-- What a session measures: the record in a slot, or the master gauge (R60). -/
inductive SessionKind where
  | tool (slot : Nat)
  | master
  deriving DecidableEq, Repr

/-- The session context of a station (R60): the points in order of arrival and the seconds left in the window. -/
structure Session where
  kind : SessionKind
  points : List Point
  timer : Nat
  deriving DecidableEq, Repr

/-- A presetting station (the table of R41). A staged half is present when its staged mark is set; the active set is
present once a calibration has been activated. The bound client is read from the client table (R42). -/
structure Station where
  state : StationState
  window : Nat
  active : Option (GeometryHalf × CorrectionHalf)
  generation : Nat
  stagedGeometry : Option GeometryHalf
  stagedCorrection : Option CorrectionHalf
  pending : Bool
  session : Option Session
  deriving DecidableEq, Repr

/-! ### Issue tickets (chapter 5) -/

/-- The states of a ticket that is not FREE; from PROMISED on it holds a record's slot (R82). -/
inductive TicketStatus where
  | waiting
  | promised (slot : Nat)
  | released (slot : Nat)
  | opened (slot : Nat)
  deriving DecidableEq, Repr

/-- Who made a ticket: an ISSUE, or the life unit's replacement service (R82). -/
inductive Origin where
  | requested | auto
  deriving DecidableEq, Repr

/-- A ticket that is not FREE (the table of R82). Its number is its key in `Hall.tickets`. -/
structure Ticket where
  status : TicketStatus
  requester : Nat
  tag : Word
  origin : Origin
  band : Band
  cls : Nat
  lowGrade : Nat
  highGrade : Nat
  life : Nat
  specific : Option Nat
  dest : Option Nat
  notify : Bool
  age : Nat
  deriving DecidableEq, Repr

/-- The issue mode (5.3). -/
inductive IssueMode where
  | online | draining | offline
  deriving DecidableEq, Repr

/-! ### Drawer channels (chapter 6) -/

/-- The channel states (R108). -/
inductive ChannelState where
  | off | idle | released | opened | ajar | forced
  deriving DecidableEq, Repr

/-- The level of a drawer, and of a CLOSED input as its filter has seen it (R107, R202). -/
inductive DrawerLevel where
  | open | shut
  deriving DecidableEq, Repr

/-- A drawer channel (the table of R108), with the level its debounce filter has seen (R202). The timer holds the
seconds left in the running window, or none when it is stopped. -/
structure Channel where
  state : ChannelState
  level : DrawerLevel
  filter : DrawerLevel
  enabled : Bool
  openWindow : Nat
  takeWindow : Nat
  timer : Option Nat
  queue : List Nat
  deriving DecidableEq, Repr

/-! ### Machine pockets (chapter 7) -/

/-- A binding in use (R127). Its entry number is its key in `Hall.bindings`. -/
structure Binding where
  client : Nat
  pocket : Nat
  slot : Nat
  isProtected : Bool
  deriving DecidableEq, Repr

/-! ### Rendering programs (chapter 8) -/

/-- The field a LOAD takes (R146). -/
inductive Field where
  | length | radius | diameter | life | tool | pocket | grade
  deriving DecidableEq, Repr

/-- The unit of a LOAD (R146). -/
inductive LengthUnit where
  | none | mm | inch
  deriving DecidableEq, Repr

/-- An entry of the punctuation set (R153). -/
inductive Mark where
  | fill | point | plus | minus | sep | eol
  deriving DecidableEq, Repr

/-- A step of a stored program (R146). -/
inductive Step where
  | literal (chars : List Byte)
  | load (field : Field) (unit : LengthUnit) (decimals width : Nat)
  | digits (n : Nat)
  | force
  | point
  | sign
  | mark (entry : Mark)
  | setmark (entry : Mark) (char : Option Byte)
  | skipIfZero (n : Nat)
  | endStep
  deriving DecidableEq, Repr

/-- A stored program (R145): its steps, its encoding as STORE-PROGRAM took it, and its greatest output. The step
count and the encoded size are the lengths of the two lists. -/
structure Program where
  steps : List Step
  bytes : List Byte
  greatest : Nat
  deriving DecidableEq, Repr

/-! ### The sweep timer (chapter 9) -/

/-- The sweep timer (R175): the stored period, the length of the running interval, and the seconds counted in it. -/
structure SweepTimer where
  period : Nat
  length : Nat
  count : Nat
  deriving DecidableEq, Repr

/-! ### The request port (chapter 10) -/

/-- The roles (R191). -/
inductive Role where
  | none | toolroom | presetter | crib | machine
  deriving DecidableEq, Repr

/-- An entry of the client table: a role with that role's fields (R191). -/
inductive ClientEntry where
  | none
  | toolroom
  | presetter (station : Fin 4)
  | crib
  | machine (program : Fin 16) (pockets severity : Nat) (offset : Int)
  deriving DecidableEq, Repr

/-- The attention flags, in the order of the table of R195. -/
inductive Flag where
  | overrun | channelFault | drift | lowStock | overdue | replaceFailed | coldStart
  deriving DecidableEq, Repr

/-- The completion codes, in the order of 10.10. -/
inductive Code where
  | ok | queued | promised | notPermitted | malformed | range | unknownTool | duplicate | storeFull | noClass
  | classInUse | state | busy | noSession | pointsFull | noPoints | stationNotReady | waitFull | noTicket | tooLate
  | offline | drawerOpen | wrongMachine | pocketTaken | noBinding | bindingsFull | isProtected | significance | band
  | exhausted | badProgram | noProgram | clientBusy | stationTaken
  deriving DecidableEq, Repr

/-- The notice kinds (10.11). -/
inductive NoticeKind where
  | promised | issued | notCollected | expired | cancelled | gaugeTimeout | drift | lifeWarn | lifeEnd | handoff
  | lowStock | overdue | channelFault
  deriving DecidableEq, Repr

/-- A notice as a unit asks for it: its kind, the client it is addressed to (255 for every toolroom client), its body. -/
structure Notice where
  kind : NoticeKind
  client : Byte
  body : List Word
  deriving DecidableEq, Repr

/-- A message of the outbound queue (R187, R190): a response, with the kind code as received, or a notice. -/
inductive OutMessage where
  | response (kindCode client : Byte) (tag : Word) (code : Code) (body : List Word)
  | notice (notice : Notice)
  deriving DecidableEq, Repr

/-- What a request that has been taken still places (R188, R190): its response, by its parts, and then its notices. -/
structure Answer where
  kindCode : Byte
  client : Byte
  tag : Word
  code : Code
  body : List Word
  notices : List Notice
  deriving DecidableEq, Repr

/-- What started the part last (R200). -/
inductive StartKind where
  | cold | warm
  deriving DecidableEq, Repr

/-- The cause of the last start (R200). -/
inductive StartCause where
  | retain | restart
  deriving DecidableEq, Repr

/-- Where a RESTART stands (R198): none is pending; a start is pending and the response has not been read out; the
last word of the response has been read and the warm start follows. -/
inductive StartPhase where
  | none | pending | due
  deriving DecidableEq, Repr

/-- The output lines (10.12): ready, MSG-AVAIL, ATTN and RELEASE 0 to 15. -/
structure Pins where
  ready : Bool
  msgAvail : Bool
  attn : Bool
  release : Vector Bool 16
  deriving DecidableEq, Repr

/-- What the record store, the class table, the presetting, issue, drawer, pocket, rendering and life units hold,
with the client table, the attention flags and the start record of the port. A request's own unit acts on this alone. -/
structure Hall where
  /-- Live records by slot 0 to 4095; an unlisted slot is free. -/
  records : Table Record
  /-- The tool-number index: slot by tool number (R10). -/
  index : Table Nat
  /-- Sister chains: slots by class, in chain order; an unlisted class has an empty chain (R11). -/
  chains : Table (List Nat)
  /-- Defined classes by number 1 to 255; an unlisted class is undefined. -/
  classes : Table ClassEntry
  stations : Vector Station 4
  /-- Tickets by number 0 to 127; an unlisted ticket is FREE. -/
  tickets : Table Ticket
  /-- Wait queues: ticket numbers by class; an unlisted class has an empty queue (R86). -/
  waitQueues : Table (List Nat)
  mode : IssueMode
  channels : Vector Channel 16
  /-- The handover list, in promise order (R121). -/
  handover : List Nat
  /-- Bindings by entry 0 to 1023; an unlisted entry is free. -/
  bindings : Table Binding
  /-- Stored programs by number 0 to 15; an unlisted entry is empty. -/
  programs : Table Program
  sweep : SweepTimer
  /-- Client table entries by number 0 to 63; an unlisted client has role NONE. -/
  clients : Table ClientEntry
  /-- The seven attention flags; bit i is the i-th flag of the table of R195. -/
  flags : BitVec 7
  /-- The seven enables, in the same order. -/
  enables : BitVec 7
  startKind : StartKind
  startCause : StartCause
  /-- The MODEL's own field, no state of the part: how many seconds have passed, the argument of
  `Config.coincidence` (log 4). -/
  freeIndex : Nat
  deriving DecidableEq, Repr

/-- The port's queues and lines. -/
structure Port where
  /-- The inbound queue, oldest message first; each message is the words of it written so far (R186). Only the newest
  can be partly written. -/
  inbound : List (List Word)
  /-- The outbound queue, oldest message first (R187). -/
  outbound : List OutMessage
  /-- How many words of the head message of the outbound queue have been read (R187). -/
  readCount : Nat
  /-- What the request taken last still has to place: its checks and its changes of state were made at the taking, and a
  place of the outbound queue is kept for its response until that is placed (R188, R201). -/
  serving : Option Answer
  start : StartPhase
  /-- The word the last read gave the link processor on the port data lines. -/
  readOut : Word
  pins : Pins
  deriving DecidableEq, Repr

/-- The state of the machine: the commands that wait, first in, first out, the port and the units. -/
structure State where
  pending : List Instr
  port : Port
  hall : Hall
  deriving DecidableEq, Repr

/-- No command of this part makes it fault: the manual gives every request, event and expiry an effect or an answer.
The type is closed and has no constructor. -/
inductive Fault where
  deriving DecidableEq, Repr

/-- Why the model gives a command no next state. -/
inductive Refusal where
  /-- Raised by `exec` alone, for a command that has no meaning yet. Safe: no claim about it can be proved. -/
  | notModelled (mnemonic : String)
  /-- Raised by the meanings of STORE_PROGRAM and MALFORMED_MESSAGE for an operand list that no message can carry
  (`Instr.wellFormed` is false). Safe: there is no such command on the part. -/
  | illFormed
  deriving DecidableEq, Repr

/-- A station after a cold start (R59). -/
def Station.cold : Station where
  state := .uncal
  window := 600
  active := none
  generation := 0
  stagedGeometry := none
  stagedCorrection := none
  pending := false
  session := none

/-- A channel after a cold start whose CLOSED input reads as given (R125, R126). -/
def Channel.cold (level : DrawerLevel) : Channel where
  state := .off
  level := level
  filter := level
  enabled := false
  openWindow := 60
  takeWindow := 120
  timer := none
  queue := []

/-- The units after a cold start with the given drawer levels: every chapter's cold start (R23, R40, R59, R81, R106,
R126, R144, R165, R184, R191, R195, R200). -/
def Hall.cold (levels : Vector DrawerLevel 16) : Hall where
  records := []
  index := []
  chains := []
  classes := []
  stations := Vector.replicate 4 Station.cold
  tickets := []
  waitQueues := []
  mode := .online
  channels := Vector.ofFn fun c => Channel.cold (levels.get c)
  handover := []
  bindings := []
  programs := []
  sweep := ⟨60, 60, 0⟩
  clients := [(0, .toolroom)]
  flags := 0x40#7
  enables := 0x7f#7
  startKind := .cold
  startCause := .retain
  freeIndex := 0

/-- The port after a cold start: empty queues, ready asserted, MSG-AVAIL low, ATTN asserted by the COLD-START flag
under its enable, no RELEASE asserted (R197, R195, R125). -/
def Port.cold : Port where
  inbound := []
  outbound := []
  readCount := 0
  serving := none
  start := .none
  readOut := 0
  pins := ⟨true, false, true, Vector.replicate 16 false⟩

/-- The machine right after a cold start with every drawer shut, its CLOSED inputs high (log 1), and no command
waiting. -/
def State.reset : State where
  pending := []
  port := Port.cold
  hall := Hall.cold (Vector.replicate 16 DrawerLevel.shut)

end Sys2Proof.Machine
end

