-- ==== Sys2Proof/Machine/Table.lean ====
section
/-! DEFINITION. Operations on sparse tables (`Table`): entries in strictly rising key order; and on banks. -/

namespace Sys2Proof.Machine

/-- The value at a key, or none when the key is not listed. -/
def Table.get {α : Type} : Table α → Nat → Option α
  | [], _ => none
  | (k, v) :: rest, n => if k = n then some v else Table.get rest n

/-- The key is listed. -/
def Table.has {α : Type} (t : Table α) (n : Nat) : Bool := (t.get n).isSome

/-- Write a key, at its place in the rising order. -/
def Table.put {α : Type} : Table α → Nat → α → Table α
  | [], n, v => [(n, v)]
  | (k, w) :: rest, n, v =>
    if n < k then (n, v) :: (k, w) :: rest
    else if n = k then (n, v) :: rest
    else (k, w) :: Table.put rest n v

/-- Take a key out. -/
def Table.del {α : Type} (t : Table α) (n : Nat) : Table α := t.filter fun e => e.1 != n

/-- The keys, rising. -/
def Table.keys {α : Type} (t : Table α) : List Nat := t.map Prod.fst

/-- Change every value, keeping the keys. -/
def Table.mapValues {α : Type} (f : α → α) (t : Table α) : Table α := t.map fun e => (e.1, f e.2)

/-- The first number from `n` on that the table (whose keys start at `n` or later) does not list. -/
def Table.freeFrom {α : Type} : Table α → Nat → Nat
  | [], n => n
  | (k, _) :: rest, n => if k = n then Table.freeFrom rest (n + 1) else n

/-- The lowest-numbered free place below `cap` (Allocation, spec/00_scope.md; R9, R84, R127). -/
def Table.lowestFree {α : Type} (t : Table α) (cap : Nat) : Option Nat :=
  if t.freeFrom 0 < cap then some (t.freeFrom 0) else none

/-- How many entries satisfy a condition. -/
def Table.count {α : Type} (p : α → Bool) (t : Table α) : Nat := (t.filter fun e => p e.2).length

/-- A list at a key; an unlisted key has the empty list. -/
def Table.list (t : Table (List Nat)) (n : Nat) : List Nat := (t.get n).getD []

/-- Write a list at a key, keeping empty lists unlisted. -/
def Table.putList (t : Table (List Nat)) (n : Nat) (l : List Nat) : Table (List Nat) :=
  match l with
  | [] => t.del n
  | x :: xs => t.put n (x :: xs)

/-- The canonical form: strictly rising keys. -/
abbrev Table.wf {α : Type} (t : Table α) : Prop := t.Pairwise fun a b => a.1 < b.1

/-- Change every entry of a fixed bank. It is written with `Vector.ofFn`, which Lean's kernel evaluates step by step. -/
def mapBank {α β : Type} {n : Nat} (f : α → β) (bank : Vector α n) : Vector β n := Vector.ofFn fun i => f (bank.get i)

end Sys2Proof.Machine
end

