-- ==== Sys2Proof/Machine/Flags.lean ====
section
/-! DEFINITION. The attention flags and their enables (10.6). -/

namespace Sys2Proof.Machine

/-- A flag's bit: the order of the table of R195, which R204 numbers from 0. -/
def Flag.index : Flag → Nat
  | .overrun => 0
  | .channelFault => 1
  | .drift => 2
  | .lowStock => 3
  | .overdue => 4
  | .replaceFailed => 5
  | .coldStart => 6

/-- The word with that flag alone. -/
def Flag.mask (f : Flag) : BitVec 7 := BitVec.twoPow 7 f.index

/-- The flag is set. -/
def Hall.hasFlag (s : Hall) (f : Flag) : Bool := s.flags.getLsbD f.index

/-- Set a flag; setting a flag that is set changes nothing (R195). -/
def setFlag (f : Flag) (s : Hall) : Hall := { s with flags := s.flags ||| f.mask }

/-- Clear every flag a choice names (R196). -/
def clearFlags (choice : BitVec 7) (s : Hall) : Hall := { s with flags := s.flags &&& ~~~choice }

/-- ATTN is asserted while a flag is set whose enable is set (R195). -/
def attnLine (s : Hall) : Bool := decide (s.flags &&& s.enables ≠ 0#7)

end Sys2Proof.Machine
end

