-- ==== Sys2Proof/WellFormed.lean ====
section
/-! DEFINITION. Which commands are well formed: those a message of the request port can carry. Every command's
operands already have the widths of the fields that carry them; two operands are lists and are checked here. -/

namespace Sys2Proof

/-- The body length a first header word names (R203: bits 29 to 24). -/
def bodyLengthOf (w : Word) : Nat := (w.extractLsb' 24 6).toNat

/-- The words are one whole message: a header of two words and a body of the length the header names (R186). -/
def oneMessage : List Word → Bool
  | [] => false
  | w :: rest => decide (rest.length = 1 + bodyLengthOf w)

/-- A STORE-PROGRAM carries 0 to 244 encoded bytes (R207), and a message given by its words is one whole message. -/
def Instr.wellFormed : Instr → Bool
  | .storeProgram _ _ bytes => decide (bytes.length ≤ 244)
  | .malformedMessage words => oneMessage words
  | _ => true

end Sys2Proof
end

