-- ==== Sys2Proof/Decode.lean ====
section
/-! DEFINITION. Reading a request message and writing one (spec/11_message_and_record_formats.md, R203, R204, R207).
`decodeBody` is total: a body whose length or coded fields are wrong gives none, which the port answers with
MALFORMED. `encode` writes the words of a request command. -/

namespace Sys2Proof

/-- The request codes of 11.2. -/
def Kind.code : Kind → Byte
  | .enrol => 0x01#8
  | .retire => 0x02#8
  | .hold => 0x03#8
  | .releaseHold => 0x04#8
  | .moveBin => 0x05#8
  | .queryTool => 0x06#8
  | .findClass => 0x07#8
  | .defineClass => 0x10#8
  | .queryClass => 0x11#8
  | .deleteClass => 0x12#8
  | .stats => 0x13#8
  | .calGeometry => 0x20#8
  | .calCorrection => 0x21#8
  | .configureStation => 0x22#8
  | .queryStation => 0x23#8
  | .holdByCalibration => 0x24#8
  | .gaugeBegin => 0x28#8
  | .gaugePoint => 0x29#8
  | .gaugeEnd => 0x2a#8
  | .gaugeAbort => 0x2b#8
  | .issue => 0x30#8
  | .cancel => 0x31#8
  | .returnTool => 0x32#8
  | .setIssueMode => 0x33#8
  | .queryIssue => 0x34#8
  | .queryTicket => 0x35#8
  | .configureChannel => 0x40#8
  | .clearChannel => 0x41#8
  | .handover => 0x42#8
  | .queryChannel => 0x43#8
  | .queryHandover => 0x44#8
  | .mount => 0x50#8
  | .dismount => 0x51#8
  | .protect => 0x52#8
  | .unprotect => 0x53#8
  | .adjust => 0x54#8
  | .resendHandoff => 0x55#8
  | .queryPocket => 0x56#8
  | .storeProgram => 0x60#8
  | .queryProgram => 0x61#8
  | .renderTest => 0x62#8
  | .usage => 0x68#8
  | .setSweep => 0x69#8
  | .setClient => 0x70#8
  | .queryClient => 0x71#8
  | .attention => 0x72#8
  | .setEnables => 0x73#8
  | .restart => 0x74#8
  | .wipe => 0x75#8
  | .identify => 0x76#8

/-- Every request kind, in the order of 11.2. -/
def Kind.all : List Kind :=
  [.enrol, .retire, .hold, .releaseHold, .moveBin, .queryTool, .findClass, .defineClass, .queryClass, .deleteClass,
    .stats, .calGeometry, .calCorrection, .configureStation, .queryStation, .holdByCalibration, .gaugeBegin,
    .gaugePoint, .gaugeEnd, .gaugeAbort, .issue, .cancel, .returnTool, .setIssueMode, .queryIssue, .queryTicket,
    .configureChannel, .clearChannel, .handover, .queryChannel, .queryHandover, .mount, .dismount, .protect,
    .unprotect, .adjust, .resendHandoff, .queryPocket, .storeProgram, .queryProgram, .renderTest, .usage, .setSweep,
    .setClient, .queryClient, .attention, .setEnables, .restart, .wipe, .identify]

/-- The request a kind code names, or none. -/
def Kind.ofCode (c : Byte) : Option Kind := Kind.all.find? (fun k => k.code == c)

/-! ### Fields of words -/

/-- Bits `lo + n - 1` down to `lo` of a word, as a number. -/
def fieldOf (w : Word) (lo n : Nat) : Nat := (w.extractLsb' lo n).toNat

/-- Bit 0: a yes or no choice (R204). -/
def choiceOf (w : Word) : Bool := w.getLsbD 0

/-- The message type of a first header word (R203: bits 31 and 30). -/
def typeOf (w : Word) : Nat := fieldOf w 30 2

/-- The client number of a first header word (R203: bits 23 to 16). -/
def clientOf (w : Word) : Byte := w.extractLsb' 16 8

/-- The kind code of a first header word (R203: bits 15 to 8). -/
def kindCodeOf (w : Word) : Byte := w.extractLsb' 8 8

/-- The first header word of a message (R203). -/
def headerWord (type : BitVec 2) (length : BitVec 6) (client kind code : Byte) : Word :=
  type ++ length ++ client ++ kind ++ code

/-- The bands by code (R204). -/
def bandOf : Nat → Option Band
  | 1 => some .stop
  | 2 => some .plan
  | 3 => some .stock
  | _ => none

/-- The code of a band (R204). -/
def Band.code : Band → Nat
  | .stop => 1
  | .plan => 2
  | .stock => 3

/-- The life kinds by code (R204). -/
def lifeKindOf : Nat → Option LifeKind
  | 1 => some .time
  | 2 => some .count
  | _ => none

/-- The code of a life kind (R204). -/
def LifeKind.code : LifeKind → Nat
  | .time => 1
  | .count => 2

/-- A location word of ENROL, MOVE-BIN or RETURN; kind 0 (NONE) or 3 (POCKET) is MALFORMED there (R204). -/
def cribLocOf (w : Word) : Option CribLoc :=
  match fieldOf w 30 2 with
  | 1 => some (.drawer (w.extractLsb' 8 8) (w.extractLsb' 0 8))
  | 2 => some (.shelf (w.extractLsb' 0 16))
  | _ => none

/-- The location word of a DRAWER or SHELF. -/
def CribLoc.word : CribLoc → Word
  | .drawer c b => 1#2 ++ 0#14 ++ c ++ b
  | .shelf p => 2#2 ++ 0#14 ++ p

/-- A trim word: the sign in bit 4, the magnitude in bits 3 to 0 (R205). -/
def trimOf (w : Word) : Trim := ⟨w.getLsbD 4, w.extractLsb' 0 4⟩

/-- The word of a trim (R205). -/
def Trim.word (t : Trim) : Word := 0#27 ++ BitVec.ofBool t.minus ++ t.magnitude

/-- The word of a yes or no choice. -/
def choiceWord (b : Bool) : Word := 0#31 ++ BitVec.ofBool b

/-- The body of ISSUE (R204); a band code of 0 is MALFORMED. -/
def issueFormOf (w0 w1 w2 : Word) : Option IssueForm :=
  (bandOf (fieldOf w1 0 2)).map fun band =>
    { byTool := w1.getLsbD 2
      target := w0
      band := band
      notify := w1.getLsbD 3
      range := if w1.getLsbD 4 then some (w1.extractLsb' 8 4, w1.extractLsb' 12 4) else none
      dest := if w1.getLsbD 16 then some (w1.extractLsb' 24 8) else none
      life := w2 }

/-- Word 1 of the body of ISSUE (R204). -/
def IssueForm.word1 (f : IssueForm) : Word :=
  (f.dest.getD 0#8) ++ 0#7 ++ BitVec.ofBool f.dest.isSome ++ ((f.range.map Prod.snd).getD 0#4) ++
    ((f.range.map Prod.fst).getD 0#4) ++ 0#3 ++ BitVec.ofBool f.range.isSome ++ BitVec.ofBool f.notify ++
    BitVec.ofBool f.byTool ++ BitVec.ofNat 2 f.band.code

/-! ### The steps of an encoded program (R207) -/

/-- The bytes of a word, the first in bits 31 to 24. -/
def wordBytes (w : Word) : List Byte :=
  [w.extractLsb' 24 8, w.extractLsb' 16 8, w.extractLsb' 8 8, w.extractLsb' 0 8]

/-- Bytes packed four to a word, the first in bits 31 to 24; bytes after the last are 0. -/
def packBytes : List Byte → List Word
  | [] => []
  | [a] => [a ++ 0#24]
  | [a, b] => [a ++ b ++ 0#16]
  | [a, b, c] => [a ++ b ++ c ++ 0#8]
  | a :: b :: c :: d :: rest => (a ++ b ++ c ++ d) :: packBytes rest

/-- What stands at a place of an encoded program. -/
inductive Piece where
  /-- A kind byte of the ten kinds with all the bytes its kind takes. -/
  | whole (kind : Byte) (params : List Byte)
  /-- The bytes end part-way through the step. -/
  | cut
  /-- A LITERAL whose count byte lies outside 1 to 12, with the bytes from that count byte on: they are not walked. -/
  | badLiteral (bytes : List Byte)
  /-- A kind byte outside 0x01 to 0x0A: what follows it is not read. -/
  | badKind
  deriving DecidableEq, Repr

/-- How many bytes follow a step's kind byte. -/
inductive StepForm where
  | takes (n : Nat)
  | cut
  | badLiteral
  | badKind
  deriving DecidableEq, Repr

/-- The form of the step with this kind byte and these bytes behind it (the table of 11.4). -/
def stepForm (kind : Byte) (rest : List Byte) : StepForm :=
  match kind.toNat with
  | 1 =>
    match rest with
    | [] => .cut
    | c :: _ => if 1 ≤ c.toNat ∧ c.toNat ≤ 12 then .takes (1 + c.toNat) else .badLiteral
  | 2 => .takes 2
  | 3 => .takes 1
  | 4 => .takes 0
  | 5 => .takes 0
  | 6 => .takes 0
  | 7 => .takes 1
  | 8 => .takes 2
  | 9 => .takes 1
  | 10 => .takes 0
  | _ => .badKind

/-- The walk over the kind bytes (R207), with fuel for at most that many steps. -/
def splitStepsFuel : Nat → List Byte → List Piece
  | 0, _ => []
  | _ + 1, [] => []
  | n + 1, k :: rest =>
    match stepForm k rest with
    | .cut => [.cut]
    | .badLiteral => [.badLiteral rest]
    | .badKind => [.badKind]
    | .takes m =>
      if rest.length < m then [.cut] else .whole k (rest.take m) :: splitStepsFuel n (rest.drop m)

/-- The steps of an encoded program: every step takes at least its kind byte, so the length is fuel enough. -/
def splitSteps (bytes : List Byte) : List Piece := splitStepsFuel bytes.length bytes

/-- Check 3 of R189 for a program: no kind byte lies outside 0x01 to 0x0A. -/
def kindBytesOk (bytes : List Byte) : Bool := !(splitSteps bytes).contains .badKind

/-! ### Bodies -/

/-- The request of kind `k` that a body spells, or none when its length or a coded field is wrong (R204). Whether
RESEND-HANDOFF has the length its sender's role takes is judged by the port, which knows the role. A MACHINE's fields
stand in the order of R191, and a MOUNT has its tool number before its pocket (DEDUCED, log 30). -/
def decodeBody (k : Kind) (h : Header) (body : List Word) : Option Instr :=
  match k with
  | .enrol =>
    match body with
    | [t, c, l] => (cribLocOf l).map fun loc => .enrol h t c loc none
    | [t, c, l, life] => (cribLocOf l).map fun loc => .enrol h t c loc (some life)
    | _ => none
  | .retire => match body with | [t] => some (.retire h t) | _ => none
  | .hold => match body with | [t] => some (.hold h t) | _ => none
  | .releaseHold => match body with | [t, r] => some (.releaseHold h t (choiceOf r)) | _ => none
  | .moveBin => match body with | [t, l] => (cribLocOf l).map fun loc => .moveBin h t loc | _ => none
  | .queryTool => match body with | [t] => some (.queryTool h t) | _ => none
  | .findClass => match body with | [c, p] => some (.findClass h c p) | _ => none
  | .defineClass =>
    match body with
    | [c, s1, s2, s3, s4, s5, s6, s7, s8, s9, s10, p1, p2, p3, p4, p5, p6, p7, p8, p9] =>
      (lifeKindOf s9.toNat).map fun lk =>
        .defineClass h c ⟨s1, s2, s3, s4, s5, s6, s7, s8, lk, s10⟩ ⟨p1, p2, p3, p4, p5, p6, p7, p8, choiceOf p9⟩
    | _ => none
  | .queryClass => match body with | [c] => some (.queryClass h c) | _ => none
  | .deleteClass => match body with | [c] => some (.deleteClass h c) | _ => none
  | .stats => match body with | [c, o] => some (.stats h c (choiceOf o)) | _ => none
  | .calGeometry =>
    match body with
    | [st, a, b, c, d, e, f] => some (.calGeometry h st ⟨a, b, c, d, e, f⟩)
    | _ => none
  | .calCorrection =>
    match body with
    | [st, a, b, c, d] => some (.calCorrection h st ⟨trimOf a, trimOf b, c, d⟩)
    | _ => none
  | .configureStation => match body with | [st, w] => some (.configureStation h st w) | _ => none
  | .queryStation => match body with | [st] => some (.queryStation h st) | _ => none
  | .holdByCalibration => match body with | [st, g] => some (.holdByCalibration h st g) | _ => none
  | .gaugeBegin => match body with | [t] => some (.gaugeBegin h t) | _ => none
  | .gaugePoint => match body with | [z, x] => some (.gaugePoint h z x) | _ => none
  | .gaugeEnd => match body with | [t] => some (.gaugeEnd h t) | _ => none
  | .gaugeAbort => match body with | [] => some (.gaugeAbort h) | _ => none
  | .issue => match body with | [a, b, c] => (issueFormOf a b c).map fun f => .issue h f | _ => none
  | .cancel =>
    match body with
    | [n] => some (.cancel h n none)
    | [n, t] => some (.cancel h n (some t))
    | _ => none
  | .returnTool => match body with | [t, l] => (cribLocOf l).map fun loc => .returnTool h t loc | _ => none
  | .setIssueMode => match body with | [m] => some (.setIssueMode h (choiceOf m)) | _ => none
  | .queryIssue => match body with | [c, p] => some (.queryIssue h c p) | _ => none
  | .queryTicket => match body with | [n] => some (.queryTicket h n) | _ => none
  | .configureChannel =>
    match body with
    | [c, e, o, t] => some (.configureChannel h c (choiceOf e) o t)
    | _ => none
  | .clearChannel => match body with | [c] => some (.clearChannel h c) | _ => none
  | .handover =>
    match body with
    | [n] => some (.handover h n none)
    | [n, t] => some (.handover h n (some t))
    | _ => none
  | .queryChannel => match body with | [c, p] => some (.queryChannel h c p) | _ => none
  | .queryHandover => match body with | [p] => some (.queryHandover h p) | _ => none
  | .mount => match body with | [t, p] => some (.mount h t p) | _ => none
  | .dismount => match body with | [p] => some (.dismount h p) | _ => none
  | .protect => match body with | [p] => some (.protect h p) | _ => none
  | .unprotect => match body with | [p] => some (.unprotect h p) | _ => none
  | .adjust => match body with | [t, l, r] => some (.adjust h t l r) | _ => none
  | .resendHandoff =>
    match body with
    | [p] => some (.resendHandoff h none p)
    | [c, p] => some (.resendHandoff h (some c) p)
    | _ => none
  | .queryPocket => match body with | [c, p] => some (.queryPocket h c p) | _ => none
  | .storeProgram =>
    match body with
    | w :: rest =>
      let n := fieldOf w 8 8
      let bytes := (rest.flatMap wordBytes).take n
      if rest.length = (n + 3) / 4 ∧ kindBytesOk bytes = true then
        some (.storeProgram h (w.extractLsb' 0 8) bytes)
      else none
    | [] => none
  | .queryProgram => match body with | [p] => some (.queryProgram h p) | _ => none
  | .renderTest => match body with | [p, t, o] => some (.renderTest h p t o) | _ => none
  | .usage => match body with | [p, a] => some (.usage h p a) | _ => none
  | .setSweep =>
    match body with
    | [] => some (.setSweep h none)
    | [p] => some (.setSweep h (some p))
    | _ => none
  | .setClient =>
    match body with
    | [c, r] =>
      match r.toNat with
      | 0 => some (.setClient h c .none)
      | 1 => some (.setClient h c .toolroom)
      | 3 => some (.setClient h c .crib)
      | _ => none
    | [c, r, st] => if r.toNat = 2 then some (.setClient h c (.presetter st)) else none
    | [c, r, p, k, v, o] => if r.toNat = 4 then some (.setClient h c (.machine p k v o)) else none
    | _ => none
  | .queryClient => match body with | [c] => some (.queryClient h c) | _ => none
  | .attention => match body with | [f] => some (.attention h (f.extractLsb' 0 7)) | _ => none
  | .setEnables => match body with | [f] => some (.setEnables h (f.extractLsb' 0 7)) | _ => none
  | .restart => match body with | [] => some (.restart h) | _ => none
  | .wipe => match body with | [] => some (.wipe h) | _ => none
  | .identify => match body with | [] => some (.identify h) | _ => none

/-- The role and the fields of a SET-CLIENT as body words. -/
def ClientForm.words : ClientForm → List Word
  | .none => [0]
  | .toolroom => [1]
  | .presetter st => [2, st]
  | .crib => [3]
  | .machine p k v o => [4, p, k, v, o]

/-- The body words of a request command (R204, R207), laid out as `decodeBody` reads them (log 18, log 30); an event has
none. -/
def bodyWords : Instr → List Word
  | .enrol _ t c loc life => [t, c, loc.word] ++ life.toList
  | .retire _ t => [t]
  | .hold _ t => [t]
  | .releaseHold _ t r => [t, choiceWord r]
  | .moveBin _ t loc => [t, loc.word]
  | .queryTool _ t => [t]
  | .findClass _ c p => [c, p]
  | .defineClass _ c s p =>
    [c, s.nominalLength, s.nominalRadius, s.gradeBase, s.gradeStep, s.topGrade, s.bandLow, s.bandHigh, s.runoutLimit,
      BitVec.ofNat 32 s.lifeKind.code, s.fullLife, p.warnLevel, p.regrindLoss, p.maxRegrinds, p.validity, p.outLimit,
      p.waitLimit, p.promotionAge, p.minStock, choiceWord p.autoReplace]
  | .queryClass _ c => [c]
  | .deleteClass _ c => [c]
  | .stats _ c o => [c, choiceWord o]
  | .calGeometry _ st g => [st, g.zPitch, g.xPitch, g.zZero, g.xZero, g.zRef, g.xRef]
  | .calCorrection _ st c => [st, c.zTrim.word, c.xTrim.word, c.thermal, c.driftLimit]
  | .configureStation _ st w => [st, w]
  | .queryStation _ st => [st]
  | .holdByCalibration _ st g => [st, g]
  | .gaugeBegin _ t => [t]
  | .gaugePoint _ z x => [z, x]
  | .gaugeEnd _ t => [t]
  | .gaugeAbort _ => []
  | .issue _ f => [f.target, f.word1, f.life]
  | .cancel _ n t => n :: t.toList
  | .returnTool _ t loc => [t, loc.word]
  | .setIssueMode _ m => [choiceWord m]
  | .queryIssue _ c p => [c, p]
  | .queryTicket _ n => [n]
  | .configureChannel _ c e o t => [c, choiceWord e, o, t]
  | .clearChannel _ c => [c]
  | .handover _ n t => n :: t.toList
  | .queryChannel _ c p => [c, p]
  | .queryHandover _ p => [p]
  | .mount _ t p => [t, p]
  | .dismount _ p => [p]
  | .protect _ p => [p]
  | .unprotect _ p => [p]
  | .adjust _ t l r => [t, l, r]
  | .resendHandoff _ c p => c.toList ++ [p]
  | .queryPocket _ c p => [c, p]
  | .storeProgram _ n bytes => (0#16 ++ BitVec.ofNat 8 bytes.length ++ n) :: packBytes bytes
  | .queryProgram _ p => [p]
  | .renderTest _ p t o => [p, t, o]
  | .usage _ p a => [p, a]
  | .setSweep _ p => p.toList
  | .setClient _ c f => c :: f.words
  | .queryClient _ c => [c]
  | .attention _ f => [0#25 ++ f]
  | .setEnables _ f => [0#25 ++ f]
  | .restart _ => []
  | .wipe _ => []
  | .identify _ => []
  | .malformedMessage _ => []
  | .messageRead => []
  | .opened _ => []
  | .closed _ => []
  | .openWindowExpiry _ => []
  | .takeWindowExpiry _ => []
  | .gaugeWindowExpiry _ => []
  | .sweep => []
  | .reset _ _ => []
  | .pendingStart => []
  | .messageWordWritten _ => []

/-- The words of the message a request command presents: the header (message type 1, request; R203), the tag and the
body. For `malformedMessage` they are the words it carries; an event is no message. -/
def encode (i : Instr) : List Word :=
  match i.kind, i.header with
  | some k, some h =>
    headerWord 1#2 (BitVec.ofNat 6 (bodyWords i).length) h.client k.code 0#8 :: h.tag :: bodyWords i
  | _, _ =>
    match i with
    | .malformedMessage words => words
    | _ => []

/-- No row of spec/opcode_table.json gives a command any bits (its "fields" are empty and it has no "fixed"), so no
table word spells a command. The words of the port's messages are decoded by `decodeBody`. -/
def decodeTableWord (_nbits _w : Nat) : Option Instr := none

end Sys2Proof
end

