-- ==== Sys2Proof/Machine/Arith.lean ====
section
/-! DEFINITION. The arithmetic of the manual (spec/00_scope.md, Conventions): rounding, ceiling, clamping, saturation. -/

namespace Sys2Proof.Machine

/-- A quotient rounded to the nearest whole number, halves away from zero (Rounding). The divisor is positive. -/
def roundDiv (n : Int) (d : Nat) : Int :=
  if 0 ≤ n then ((2 * n.natAbs + d) / (2 * d) : Nat) else -((2 * n.natAbs + d) / (2 * d) : Nat)

/-- A quotient rounded toward plus infinity (Ceiling). The divisor is positive. -/
def ceilDiv (n d : Nat) : Nat := (n + (d - 1)) / d

/-- A value outside a range is replaced by the nearer end of it (Clamped). -/
def clampNat (lo hi n : Nat) : Nat := if n < lo then lo else if hi < n then hi else n

/-- The same for a signed quantity. -/
def clampInt (lo hi n : Int) : Int := if n < lo then lo else if hi < n then hi else n

/-- The largest magnitude of a tool-geometry value (Lengths and geometry). -/
def geometryLimit : Int := 9999999

/-- A tool-geometry value lies within ±9,999,999. -/
def inGeometryRange (n : Int) : Bool := decide (-geometryLimit ≤ n ∧ n ≤ geometryLimit)

/-- An age rises by 1 and stops at 65,535 (Saturates). -/
def ageUp (n : Nat) : Nat := if n < 65535 then n + 1 else 65535

/-- The largest of a list of values, from a first one. -/
def largest : Int → List Int → Int
  | m, [] => m
  | m, x :: xs => largest (if m < x then x else m) xs

/-- The smallest of a list of values, from a first one. -/
def smallest : Int → List Int → Int
  | m, [] => m
  | m, x :: xs => smallest (if x < m then x else m) xs

/-- The elements of a list in the order a number picks: first the element at the number's remainder by the length,
then the others by its quotient. Every permutation is picked by some number; a list of one has one order. -/
def arrange {α : Type} : Nat → Nat → List α → List α
  | 0, _, _ => []
  | _ + 1, _, [] => []
  | _ + 1, _, [x] => [x]
  | fuel + 1, n, x :: y :: rest =>
    let l := x :: y :: rest
    match l[n % l.length]? with
    | some z => z :: arrange fuel (n / l.length) (l.eraseIdx (n % l.length))
    | none => l

end Sys2Proof.Machine
end

