-- ==== Sys2Proof/Machine/Operands.lean ====
section
/-! DEFINITION. How values are coded in the words of responses and notices (R203 to R206), and the images of
records, tickets and stations (R205). -/

namespace Sys2Proof.Machine

/-- A number in a word. -/
def natWord (n : Nat) : Word := BitVec.ofNat 32 n

/-- A quantity that can be negative, as a two's-complement word (R204). -/
def intWord (n : Int) : Word := BitVec.ofInt 32 n

/-- A yes or no, or a mark: bit 0, set for yes (R206). -/
def markWord (b : Bool) : Word := if b then 1 else 0

/-- An optional number; an absent one reads 0 (R206). -/
def optWord (n : Option Nat) : Word := natWord (n.getD 0)

/-- One field of a packed word: its lowest bit, its width and its value. -/
def packField (lo width value : Nat) : Nat := value % 2 ^ width * 2 ^ lo

/-- One mark of a packed word. -/
def packMark (lo : Nat) (b : Bool) : Nat := if b then 2 ^ lo else 0

/-- A word made of fields that do not overlap. -/
def packWord (fields : List Nat) : Word := natWord fields.sum

/-- A signed word as the number it holds. -/
def signedOf (w : Word) : Int := w.toInt

/-! ### Codes -/

/-- The record state codes (R205). -/
def RecordStatus.code : RecordStatus → Nat
  | .new => 1
  | .ready => 2
  | .gauging _ => 3
  | .promised => 4
  | .out => 5
  | .mounted => 6
  | .held _ => 7

/-- The hold reason codes (R205). -/
def HoldReason.code : HoldReason → Nat
  | .rejected => 1
  | .stale => 2
  | .worn => 3
  | .audit => 4
  | .suspect => 5
  | .manual => 6

/-- The hold reason, 0 when the record is not HELD. -/
def RecordStatus.holdCode : RecordStatus → Nat
  | .held reason => reason.code
  | _ => 0

/-- The status a resume state stands for. -/
def Resume.status : Resume → RecordStatus
  | .new => .new
  | .ready => .ready
  | .held reason => .held reason

/-- The resume state, 0 when the record is not GAUGING. -/
def RecordStatus.resumeCode : RecordStatus → Nat
  | .gauging resume => resume.status.code
  | _ => 0

/-- The resume reason, 0 when there is none. -/
def RecordStatus.resumeHoldCode : RecordStatus → Nat
  | .gauging resume => resume.status.holdCode
  | _ => 0

/-- The reject cause codes (R205). -/
def RejectCause.code : RejectCause → Nat
  | .range => 1
  | .length => 2
  | .radius => 3
  | .runout => 4

/-- A reject cause, 0 when absent. -/
def rejectCode (c : Option RejectCause) : Nat := (c.map RejectCause.code).getD 0

/-- The ticket state codes (R205); FREE is 0. -/
def TicketStatus.code : TicketStatus → Nat
  | .waiting => 1
  | .promised _ => 2
  | .released _ => 3
  | .opened _ => 4

/-- The slot of the tool a ticket holds, from PROMISED on. -/
def TicketStatus.slot : TicketStatus → Option Nat
  | .waiting => none
  | .promised slot => some slot
  | .released slot => some slot
  | .opened slot => some slot

/-- The origin codes (R205). -/
def Origin.code : Origin → Nat
  | .requested => 0
  | .auto => 1

/-- The issue mode codes (R206). -/
def IssueMode.code : IssueMode → Nat
  | .online => 1
  | .draining => 2
  | .offline => 3

/-- The channel state codes (R206). -/
def ChannelState.code : ChannelState → Nat
  | .off => 1
  | .idle => 2
  | .released => 3
  | .opened => 4
  | .ajar => 5
  | .forced => 6

/-- The drawer level codes (R206). -/
def DrawerLevel.code : DrawerLevel → Nat
  | .shut => 1
  | .open => 2

/-- The station state codes (R205). -/
def StationState.code : StationState → Nat
  | .uncal => 1
  | .ready => 2
  | .drift => 3
  | .gauging _ => 4

/-- The station state an entry state stands for. -/
def EntryState.state : EntryState → StationState
  | .ready => .ready
  | .drift => .drift

/-- The entry state, 0 when the station is not GAUGING. -/
def StationState.entryCode : StationState → Nat
  | .gauging entry => entry.state.code
  | _ => 0

/-- The session kind codes (R205). -/
def SessionKind.code : SessionKind → Nat
  | .tool _ => 1
  | .master => 2

/-- The role codes (R204). -/
def Role.code : Role → Nat
  | .none => 0
  | .toolroom => 1
  | .presetter => 2
  | .crib => 3
  | .machine => 4

/-- The role of a client table entry. -/
def ClientEntry.role : ClientEntry → Role
  | .none => .none
  | .toolroom => .toolroom
  | .presetter _ => .presetter
  | .crib => .crib
  | .machine .. => .machine

/-- The codes of a LOAD's field (R207). -/
def Field.code : Field → Nat
  | .length => 1
  | .radius => 2
  | .diameter => 3
  | .life => 4
  | .tool => 5
  | .pocket => 6
  | .grade => 7

/-- The kinds of the last start (R206). -/
def StartKind.code : StartKind → Nat
  | .cold => 1
  | .warm => 2

/-- The causes of the last start (R206). -/
def StartCause.code : StartCause → Nat
  | .retain => 1
  | .restart => 2

/-- The completion codes (R203). -/
def Code.byte : Code → Byte
  | .ok => 0x00#8
  | .queued => 0x01#8
  | .promised => 0x02#8
  | .notPermitted => 0x03#8
  | .malformed => 0x04#8
  | .range => 0x05#8
  | .unknownTool => 0x06#8
  | .duplicate => 0x07#8
  | .storeFull => 0x08#8
  | .noClass => 0x09#8
  | .classInUse => 0x0a#8
  | .state => 0x0b#8
  | .busy => 0x0c#8
  | .noSession => 0x0d#8
  | .pointsFull => 0x0e#8
  | .noPoints => 0x0f#8
  | .stationNotReady => 0x10#8
  | .waitFull => 0x11#8
  | .noTicket => 0x12#8
  | .tooLate => 0x13#8
  | .offline => 0x14#8
  | .drawerOpen => 0x15#8
  | .wrongMachine => 0x16#8
  | .pocketTaken => 0x17#8
  | .noBinding => 0x18#8
  | .bindingsFull => 0x19#8
  | .isProtected => 0x1a#8
  | .significance => 0x1b#8
  | .band => 0x1c#8
  | .exhausted => 0x1d#8
  | .badProgram => 0x1e#8
  | .noProgram => 0x1f#8
  | .clientBusy => 0x20#8
  | .stationTaken => 0x21#8

/-- The notice kinds (R203). -/
def NoticeKind.byte : NoticeKind → Byte
  | .promised => 0x01#8
  | .issued => 0x02#8
  | .notCollected => 0x03#8
  | .expired => 0x04#8
  | .cancelled => 0x05#8
  | .gaugeTimeout => 0x06#8
  | .drift => 0x07#8
  | .lifeWarn => 0x08#8
  | .lifeEnd => 0x09#8
  | .handoff => 0x0a#8
  | .lowStock => 0x0b#8
  | .overdue => 0x0c#8
  | .channelFault => 0x0d#8

/-! ### Locations, images and blocks -/

/-- The location word (R204). -/
def Location.word : Location → Word
  | .none => 0
  | .drawer channel bin => packWord [packField 30 2 1, packField 8 8 channel.val, packField 0 8 bin.val]
  | .shelf position => packWord [packField 30 2 2, packField 0 16 position.val]
  | .pocket c p => packWord [packField 30 2 3, packField 16 8 c, packField 0 8 p]

/-- The grade of a record; a record without geometry has none, which reads 0. -/
def Record.grade (r : Record) : Nat := (r.measured.map fun m => m.1.grade).getD 0

/-- The twelve words of the record image (R205). -/
def recordImage (slot : Nat) (r : Record) : List Word :=
  let g : Geometry := (r.measured.map Prod.fst).getD ⟨0, 0, 0, 0⟩
  let m : Measurement := (r.measured.map Prod.snd).getD ⟨0, 0, 0, 0⟩
  [natWord r.tool,
   packWord [packField 0 8 r.cls, packField 8 4 r.status.code, packField 12 4 r.status.holdCode,
     packField 16 4 r.status.resumeCode, packField 20 4 r.status.resumeHoldCode,
     packField 24 3 (rejectCode r.rejectCause)],
   packWord [packField 0 12 slot, packField 16 4 r.regrinds, packMark 24 r.warned, packMark 25 r.ended,
     packMark 26 r.overdue, packMark 27 r.opened, packMark 28 r.measured.isSome],
   r.location.word,
   intWord g.length,
   intWord g.radius,
   intWord g.runout,
   packWord [packField 0 4 g.grade, packField 8 2 m.station.val, packField 16 16 m.generation],
   intWord m.temperature,
   packWord [packField 0 16 m.age, packField 16 16 r.outAge],
   natWord r.life,
   packWord [packMark 31 r.dest.isSome, packField 0 8 (r.dest.getD 0)]]

/-- The collection a ticket stands in, with its place from the head (R85, R90). -/
inductive Collection where
  | waitQueue (place : Nat)
  | channelQueue (channel : Fin 16) (place : Nat)
  | handoverList (place : Nat)
  deriving DecidableEq, Repr

/-- The collection codes (R205). -/
def Collection.code : Collection → Nat
  | .waitQueue _ => 1
  | .channelQueue _ _ => 2
  | .handoverList _ => 3

/-- Word 7 of the ticket image (R205). R90 names a place for a channel queue alone; the word has it for every collection
(DEDUCED, log 21). -/
def Collection.word : Collection → Word
  | .waitQueue place => packWord [packField 0 2 1, packField 16 8 place]
  | .channelQueue channel place => packWord [packField 0 2 2, packField 8 4 channel.val, packField 16 8 place]
  | .handoverList place => packWord [packField 0 2 3, packField 16 8 place]

/-- The age a ticket reports: 0 once it is promised (R90). -/
def Ticket.reportedAge (t : Ticket) : Nat :=
  match t.status with
  | .waiting => t.age
  | _ => 0

/-- The eight words of the ticket image (R205), given the tool number of its slot and its collection. -/
def ticketImage (n : Nat) (t : Ticket) (slotTool : Nat) (place : Option Collection) : List Word :=
  [packWord [packField 0 7 n, packField 8 3 t.status.code, packField 12 2 t.band.code, packField 14 1 t.origin.code,
     packMark 15 t.notify, packField 16 8 t.cls, packField 24 4 t.lowGrade, packField 28 4 t.highGrade],
   t.tag,
   packWord [packField 0 8 t.requester, packField 8 8 (t.dest.getD 255), packField 16 16 t.reportedAge],
   natWord t.life,
   optWord t.specific,
   packWord [packMark 31 t.status.slot.isSome, packField 0 12 (t.status.slot.getD 0)],
   natWord slotTool,
   (place.map Collection.word).getD 0]

/-- The image of a FREE ticket: its number and state alone (R205). -/
def freeTicketImage (n : Nat) : List Word := packWord [packField 0 7 n] :: List.replicate 7 0

/-- The values of a geometry half in the order of R47. -/
def GeometryHalf.words (g : GeometryHalf) : List Word :=
  [intWord g.zPitch, intWord g.xPitch, intWord g.zZero, intWord g.xZero, intWord g.zRef, intWord g.xRef]

/-- The values of a correction half in the order of R48. -/
def CorrectionHalf.words (c : CorrectionHalf) : List Word :=
  [c.zTrim.word, c.xTrim.word, intWord c.thermal, intWord c.driftLimit]

/-- The 24 words of the station image (R205), given the bound client and the tool number of the session. -/
def stationImage (st : Station) (bound : Option Nat) (tool : Nat) : List Word :=
  let points := (st.session.map fun x => x.points.length).getD 0
  let timer := (st.session.map fun x => x.timer).getD 0
  let kind := (st.session.map fun x => x.kind.code).getD 0
  [packWord [packField 0 3 st.state.code, packField 4 3 st.state.entryCode, packMark 8 st.stagedGeometry.isSome,
     packMark 9 st.stagedCorrection.isSome, packMark 10 st.pending, packMark 11 st.active.isSome,
     packField 16 8 (bound.getD 255), packField 24 2 kind],
   packWord [packField 0 16 st.generation, packField 16 12 st.window],
   natWord tool,
   packWord [packField 0 5 points, packField 16 12 timer]] ++
  (st.active.map fun a => a.1.words).getD (List.replicate 6 0) ++
  (st.active.map fun a => a.2.words).getD (List.replicate 4 0) ++
  (st.stagedGeometry.map GeometryHalf.words).getD (List.replicate 6 0) ++
  (st.stagedCorrection.map CorrectionHalf.words).getD (List.replicate 4 0)

/-- A handoff block: the character count, then the characters four to a word (R204). -/
def blockWords (chars : List Byte) : List Word := natWord chars.length :: packBytes chars

/-! ### Messages of the outbound queue -/

/-- The body length field of a header (R203); a body of more than 63 words leaves it open (log 5). -/
def bodyLengthField (n : Nat) : BitVec 6 := if n ≤ 63 then BitVec.ofNat 6 n else Config.longBodyLength n

/-- The words of an outbound message (R190, R203): type 2 for a response, 3 for a notice, whose code and tag are 0. -/
def OutMessage.words : OutMessage → List Word
  | .response kind client tag code body =>
    headerWord 2#2 (bodyLengthField body.length) client kind code.byte :: tag :: body
  | .notice n => headerWord 3#2 (bodyLengthField n.body.length) n.client n.kind.byte 0#8 :: 0 :: n.body

end Sys2Proof.Machine
end

