-- ==== Sys2Proof/Machine/Ops.lean ====
section
/-! DEFINITION. The operations the units share: looking records up, the sister chains, the usable counts, the drawer
queues and cycles, the promise, the offer, completion and lapse. Each answers the units' state after it and the notices
it asks for, in the order it asks; the port places them (Machine/Port.lean). -/

namespace Sys2Proof.Machine

/-- The client every TOOLROOM client hears (R190). -/
def everyToolroom : Byte := 255#8

/-- A notice addressed to one client. -/
def noticeTo (client : Nat) (kind : NoticeKind) (body : List Word) : Notice := ⟨kind, BitVec.ofNat 8 client, body⟩

/-! ### Access -/

/-- A channel. -/
def Hall.channel (s : Hall) (c : Fin 16) : Channel := s.channels.get c

/-- Write a channel. -/
def Hall.setChannel (s : Hall) (c : Fin 16) (x : Channel) : Hall := { s with channels := s.channels.set c.val x c.isLt }

/-- A station. -/
def Hall.station (s : Hall) (n : Fin 4) : Station := s.stations.get n

/-- Write a station. -/
def Hall.setStation (s : Hall) (n : Fin 4) (x : Station) : Hall :=
  { s with stations := s.stations.set n.val x n.isLt }

/-- Write a record. -/
def Hall.putRecord (s : Hall) (slot : Nat) (r : Record) : Hall := { s with records := s.records.put slot r }

/-- Write a class entry. -/
def Hall.putClass (s : Hall) (cls : Nat) (c : ClassEntry) : Hall := { s with classes := s.classes.put cls c }

/-- Write a ticket. -/
def Hall.putTicket (s : Hall) (n : Nat) (t : Ticket) : Hall := { s with tickets := s.tickets.put n t }

/-- Free a ticket (R83). -/
def Hall.freeTicket (s : Hall) (n : Nat) : Hall := { s with tickets := s.tickets.del n }

/-- The client table entry of a client; an unlisted client has role NONE (R191). -/
def Hall.client (s : Hall) (n : Nat) : ClientEntry := (s.clients.get n).getD .none

/-- The slot and the record of a tool number, by the index (R10). -/
def Hall.findTool (s : Hall) (tool : Nat) : Option (Nat × Record) :=
  match s.index.get tool with
  | none => none
  | some slot => (s.records.get slot).map fun r => (slot, r)

/-- The largest tool number (Identifiers, spec/00_scope.md). -/
def maxToolNumber : Nat := 99999999

/-- The checks of a request that names a tool number: its range, then a live record that carries it (R10). -/
def Hall.lookUpTool (s : Hall) (tool : Word) : Except Code (Nat × Record) :=
  if 1 ≤ tool.toNat ∧ tool.toNat ≤ maxToolNumber then
    match s.findTool tool.toNat with
    | some found => .ok found
    | none => .error .unknownTool
  else .error .range

/-- The checks of a request that needs a defined class: its range, then its entry (R25). -/
def Hall.lookUpClass (s : Hall) (cls : Word) : Except Code ClassEntry :=
  if 1 ≤ cls.toNat ∧ cls.toNat ≤ 255 then
    match s.classes.get cls.toNat with
    | some c => .ok c
    | none => .error .noClass
  else .error .range

/-- A channel number within 0 to 15. -/
def channelOf (w : Word) : Option (Fin 16) := if h : w.toNat < 16 then some ⟨w.toNat, h⟩ else none

/-- A station number within 0 to 3 (R41). -/
def stationOf (w : Word) : Option (Fin 4) := if h : w.toNat < 4 then some ⟨w.toNat, h⟩ else none

/-- A program number within 0 to 15 (R145). -/
def programOf (w : Word) : Option (Fin 16) := if h : w.toNat < 16 then some ⟨w.toNat, h⟩ else none

/-- The location of ENROL, MOVE-BIN and RETURN, or none when a channel is above 15, a bin above 63 or a position above
4095 (R12, R204). -/
def cribLocation : CribLoc → Option Location
  | .drawer channel bin =>
    if h : channel.toNat < 16 ∧ bin.toNat < 64 then some (.drawer ⟨channel.toNat, h.1⟩ ⟨bin.toNat, h.2⟩) else none
  | .shelf position => if h : position.toNat < 4096 then some (.shelf ⟨position.toNat, h⟩) else none

/-! ### Sister chains (R11) -/

/-- The order of a chain: life remaining ascending, then tool number ascending. -/
def chainBefore (a b : Record) : Bool := decide (a.life < b.life) || (a.life == b.life && decide (a.tool < b.tool))

/-- A slot joins a chain behind every entry that comes before its record. -/
def chainInsert (records : Table Record) (slot : Nat) (r : Record) : List Nat → List Nat
  | [] => [slot]
  | x :: xs =>
    match records.get x with
    | some rx => if chainBefore rx r then x :: chainInsert records slot r xs else slot :: x :: xs
    | none => x :: chainInsert records slot r xs

/-- A READY record joins its class's chain. -/
def joinChain (slot : Nat) (r : Record) (s : Hall) : Hall :=
  { s with chains := s.chains.putList r.cls (chainInsert s.records slot r (s.chains.list r.cls)) }

/-- A slot leaves a class's chain and the entries on either side close up (R7, R11). -/
def leaveChain (slot cls : Nat) (s : Hall) : Hall :=
  { s with chains := s.chains.putList cls ((s.chains.list cls).filter fun x => x != slot) }

/-! ### Usable counts and low marks (R33 to R35) -/

/-- The usable set: READY, PROMISED, OUT or MOUNTED with life remaining above 0 (R8). -/
def Record.usable (r : Record) : Bool :=
  match r.status with
  | .ready => decide (0 < r.life)
  | .promised => decide (0 < r.life)
  | .out => decide (0 < r.life)
  | .mounted => decide (0 < r.life)
  | _ => false

/-- The LOW-STOCK notice (R35): class, usable count after the fall, minimum stock. -/
def lowStockNotice (cls : Nat) (c : ClassEntry) : Notice :=
  ⟨.lowStock, everyToolroom, [natWord cls, natWord c.usable, natWord c.policy.minStock]⟩

/-- The low mark is the comparison of the usable count with the minimum stock (R34). -/
def ClassEntry.reassess (c : ClassEntry) : ClassEntry := { c with low := decide (c.usable < c.policy.minStock) }

/-- A report that the usable count rises (R33): never a notice (R34). -/
def usableRise (cls : Nat) (s : Hall) : Hall :=
  match s.classes.get cls with
  | none => s
  | some c => s.putClass cls { c with usable := c.usable + 1 }.reassess

/-- A report that the usable count falls (R33): the fall that sets the low mark sends LOW-STOCK and sets the flag (R34,
R35). -/
def usableFall (cls : Nat) (s : Hall) : Hall × List Notice :=
  match s.classes.get cls with
  | none => (s, [])
  | some c =>
    let c' := { c with usable := c.usable - 1 }.reassess
    if c'.low && !c.low then (setFlag .lowStock (s.putClass cls c'), [lowStockNotice cls c'])
    else (s.putClass cls c', [])

/-- A READY record is held: it leaves its chain and the usable count falls (R7, R8). -/
def holdReady (slot : Nat) (r : Record) (reason : HoldReason) (s : Hall) : Hall × List Notice :=
  usableFall r.cls ((leaveChain slot r.cls s).putRecord slot { r with status := .held reason })

/-- Visit slots in order and hold each READY record that satisfies a condition (R55, R117): the notices of the falls in
order, and the number of records held. -/
def holdEach (p : Record → Bool) (reason : HoldReason) : List Nat → Hall → Hall × List Notice × Nat
  | [], s => (s, [], 0)
  | slot :: rest, s =>
    match s.records.get slot with
    | none => holdEach p reason rest s
    | some r =>
      if decide (r.status = .ready) && p r then
        let held := holdReady slot r reason s
        let others := holdEach p reason rest held.1
        (others.1, held.2 ++ others.2.1, others.2.2 + 1)
      else holdEach p reason rest s

/-- A counter rises by 1; past its largest value it is 0 and its wrapped mark is set (R36). -/
def Counter.bump (c : Counter) : Counter := if c.count = BitVec.allOnes 32 then ⟨0, true⟩ else ⟨c.count + 1, c.wrapped⟩

/-- The issue counter of a class rises by 1 (R36, R100). -/
def countIssue (cls : Nat) (s : Hall) : Hall :=
  match s.classes.get cls with
  | none => s
  | some c => s.putClass cls { c with issues := c.issues.bump }

/-- The reject counter of a class rises by 1 (R36, R75). -/
def countReject (cls : Nat) (s : Hall) : Hall :=
  match s.classes.get cls with
  | none => s
  | some c => s.putClass cls { c with rejects := c.rejects.bump }

/-! ### Queues in band order (R86, R110) -/

/-- The precedence of a band: STOP, PLAN, STOCK. -/
def bandRank : Band → Nat
  | .stop => 0
  | .plan => 1
  | .stock => 2

/-- The rank of a ticket of a queue. -/
def rankOf (tickets : Table Ticket) (n : Nat) : Nat := ((tickets.get n).map fun t => bandRank t.band).getD 0

/-- A ticket is placed at the tail of its band. -/
def insertByBand (tickets : Table Ticket) (n rank : Nat) : List Nat → List Nat
  | [] => [n]
  | x :: xs => if rank < rankOf tickets x then n :: x :: xs else x :: insertByBand tickets n rank xs

/-- The ticket is RELEASED or OPENED, the head of a cycle. -/
def inCycle (tickets : Table Ticket) (n : Nat) : Bool :=
  match (tickets.get n).map Ticket.status with
  | some (.released _) => true
  | some (.opened _) => true
  | _ => false

/-- A newly promised ticket joins a channel queue: at the tail of its band, but behind a head that is RELEASED or
OPENED whatever its band (R110). -/
def channelQueueInsert (tickets : Table Ticket) (n rank : Nat) (queue : List Nat) : List Nat :=
  match queue with
  | [] => [n]
  | x :: xs => if inCycle tickets x then x :: insertByBand tickets n rank xs else insertByBand tickets n rank (x :: xs)

/-- A WAITING ticket joins its class's wait queue at the tail of its band (R86). -/
def joinWaitQueue (n : Nat) (t : Ticket) (s : Hall) : Hall :=
  { s with waitQueues :=
      s.waitQueues.putList t.cls (insertByBand s.tickets n (bandRank t.band) (s.waitQueues.list t.cls)) }

/-- A ticket leaves its class's wait queue (R86). -/
def leaveWaitQueue (n cls : Nat) (s : Hall) : Hall :=
  { s with waitQueues := s.waitQueues.putList cls ((s.waitQueues.list cls).filter fun x => x != n) }

/-! ### Drawer cycles (R112, R116) and the drain (R87) -/

/-- A channel that counts as settled in DRAINING: IDLE, OFF or FORCED (R87). -/
def ChannelState.settled : ChannelState → Bool
  | .off => true
  | .idle => true
  | .forced => true
  | .released => false
  | .opened => false
  | .ajar => false

/-- Every channel has settled. -/
def allSettled (s : Hall) : Bool := s.channels.toList.all fun c => c.state.settled

/-- While DRAINING, an event that leaves every channel IDLE, OFF or FORCED makes the mode OFFLINE (R87). -/
def drainCheck (s : Hall) : Hall :=
  match s.mode with
  | .draining => if allSettled s then { s with mode := .offline } else s
  | _ => s

/-- The head ticket of a starting cycle goes from PROMISED to RELEASED. -/
def Ticket.release (t : Ticket) : Ticket :=
  match t.status with
  | .promised slot => { t with status := .released slot }
  | _ => t

/-- The head ticket of an opened drawer goes from RELEASED to OPENED. -/
def Ticket.openDrawer (t : Ticket) : Ticket :=
  match t.status with
  | .released slot => { t with status := .opened slot }
  | _ => t

/-- A channel starts a cycle when it is IDLE, its queue is not empty and the mode is ONLINE: its head is RELEASED and
the open window starts (R112). -/
def startCycle (c : Fin 16) (s : Hall) : Hall :=
  match (s.channel c).state, s.mode, (s.channel c).queue with
  | .idle, .online, n :: _ =>
    let s := s.setChannel c { s.channel c with state := .released, timer := some (s.channel c).openWindow }
    match s.tickets.get n with
    | some t => s.putTicket n t.release
    | none => s
  | _, _, _ => s

/-- A ticket leaves a channel's queue and the tickets behind it close up (R111). -/
def leaveChannelQueue (n : Nat) (c : Fin 16) (s : Hall) : Hall :=
  s.setChannel c { s.channel c with queue := (s.channel c).queue.filter fun x => x != n }

/-- The drawer unit's part of a cycle's end, before the issue unit acts: RELEASE drops and the timer stops with the
cycle, and the head leaves the queue (R113, R114, R120). The channel is not IDLE until it moves on. -/
def endCycle (n : Nat) (c : Fin 16) (s : Hall) : Hall :=
  let s := leaveChannelQueue n c s
  s.setChannel c { s.channel c with timer := none }

/-- The channel moves on: a cycle for the new head, or IDLE, which may end the drain (R116). -/
def moveOn (c : Fin 16) (s : Hall) : Hall :=
  let s := s.setChannel c { s.channel c with state := .idle, timer := none }
  drainCheck (startCycle c s)

/-! ### Promise and offer (R94 to R96) -/

/-- Where a promised ticket went. -/
inductive Joined where
  | channel
  | handover
  deriving DecidableEq, Repr

/-- The code of the collection a promised ticket joined (R205). -/
def Joined.code : Joined → Nat
  | .channel => 2
  | .handover => 3

/-- A newly promised ticket goes to the queue of its drawer's channel when that is enabled, else to the handover list;
an IDLE channel starts a cycle for it when the mode is ONLINE (R95). -/
def placeWithDrawer (n : Nat) (t : Ticket) (location : Location) (s : Hall) : Hall × Joined :=
  match location with
  | .drawer c _ =>
    if (s.channel c).enabled then
      let queue := channelQueueInsert s.tickets n (bandRank t.band) (s.channel c).queue
      (startCycle c (s.setChannel c { s.channel c with queue := queue }), .channel)
    else ({ s with handover := s.handover ++ [n] }, .handover)
  | _ => ({ s with handover := s.handover ++ [n] }, .handover)

/-- A promise joins a READY record to a ticket (R94): the record leaves its chain and is PROMISED, the ticket leaves
its wait queue if it waited and takes the slot, and the drawer unit takes the ticket. -/
def promise (n : Nat) (t : Ticket) (slot : Nat) (r : Record) (s : Hall) : Hall × Joined :=
  let s := (leaveChain slot r.cls s).putRecord slot { r with status := .promised }
  let s := match t.status with
    | .waiting => leaveWaitQueue n t.cls s
    | _ => s
  placeWithDrawer n t r.location (s.putTicket n { t with status := .promised slot })

/-- The PROMISED notice of a promise made by an offer (R94). -/
def promisedNotice (n : Nat) (t : Ticket) (slot : Nat) (r : Record) (joined : Joined) : Notice :=
  noticeTo t.requester .promised
    [natWord n, t.tag, natWord r.tool, natWord slot, r.location.word, natWord r.grade, natWord r.life,
      natWord joined.code]

/-- A record meets a ticket: its grade lies within the range and its life is at least the life needed (R96). -/
def meets (r : Record) (t : Ticket) : Bool :=
  decide (t.lowGrade ≤ r.grade ∧ r.grade ≤ t.highGrade ∧ t.life ≤ r.life)

/-- What an offer came to: the notices it asks for and the ticket that took the record. -/
structure Offered where
  hall : Hall
  notices : List Notice
  taken : Option Nat

/-- The first ticket of a queue that the record meets, with its number. -/
def firstMet (tickets : Table Ticket) (r : Record) : List Nat → Option (Nat × Ticket)
  | [] => none
  | n :: rest =>
    match tickets.get n with
    | some t => if meets r t then some (n, t) else firstMet tickets r rest
    | none => firstMet tickets r rest

/-- The offer of a READY record: with the mode ONLINE, the first waiting ticket of its class that it meets is promised
the record (R96). -/
def offer (slot : Nat) (s : Hall) : Offered :=
  match s.mode, s.records.get slot with
  | .online, some r =>
    match firstMet s.tickets r (s.waitQueues.list r.cls) with
    | some (n, t) =>
      let p := promise n t slot r s
      ⟨p.1, if t.notify then [promisedNotice n t slot r p.2] else [], some n⟩
    | none => ⟨s, [], none⟩
  | _, _ => ⟨s, [], none⟩

/-- A record enters READY (R6): it joins its chain, the usable count rises when the state it left was not usable, and
it is offered. `r` is the record as its transition leaves it, but for its state. -/
def enterReady (slot : Nat) (r : Record) (wasUsable : Bool) (s : Hall) : Offered :=
  let r := { r with status := .ready }
  let s := joinChain slot r (s.putRecord slot r)
  offer slot (if wasUsable then s else usableRise r.cls s)

/-- A record leaves GAUGING for its resume state, which is removed (R67, R22). -/
def resumeRecord (slot : Nat) (r : Record) (resume : Resume) (s : Hall) : Offered :=
  match resume with
  | .ready => enterReady slot r false s
  | .new => ⟨s.putRecord slot { r with status := .new }, [], none⟩
  | .held reason => ⟨s.putRecord slot { r with status := .held reason }, [], none⟩

/-- A record leaves PROMISED for READY with its offer; the opened mark is cleared and both states are usable (R4, R8,
R99, R101). -/
def returnPromise (slot : Nat) (s : Hall) : Offered :=
  match s.records.get slot with
  | some r => enterReady slot { r with opened := false } true s
  | none => ⟨s, [], none⟩

/-- The completion of a ticket, once the drawer unit has removed it from its queue or list (R100). -/
def complete (n : Nat) (t : Ticket) (s : Hall) : Hall × List Notice :=
  match t.status.slot with
  | none => (s, [])
  | some slot =>
    match s.records.get slot with
    | none => (s.freeTicket n, [])
    | some r =>
      let s := s.putRecord slot
        { r with status := .out, location := .none, dest := t.dest, outAge := 0, opened := false }
      let s := countIssue r.cls s
      let issued := noticeTo t.requester .issued
        [natWord n, t.tag, natWord r.tool, natWord slot, optWord t.dest, natWord r.grade, natWord r.life]
      (s.freeTicket n, if t.notify then [issued] else [])

/-! ### Tickets -/

/-- The channel whose queue holds a ticket. -/
def channelHolding (n : Nat) (s : Hall) : Option (Fin 16) :=
  (List.finRange 16).find? fun c => (s.channel c).queue.contains n

/-- The collection a ticket stands in, with its place from the head in all three of them (R85, R90, R205; DEDUCED,
log 21). -/
def collectionOf (n : Nat) (t : Ticket) (s : Hall) : Option Collection :=
  match t.status with
  | .waiting => some (.waitQueue ((s.waitQueues.list t.cls).idxOf n))
  | _ =>
    match channelHolding n s with
    | some c => some (.channelQueue c ((s.channel c).queue.idxOf n))
    | none => if s.handover.contains n then some (.handoverList (s.handover.idxOf n)) else none

/-- The number of live records of a class (R25, R31). -/
def recordsOf (cls : Nat) (s : Hall) : Nat := s.records.count fun r => r.cls == cls

/-- The number of tickets of a class that are not FREE (R25, R31). -/
def ticketsOf (cls : Nat) (s : Hall) : Nat := s.tickets.count fun t => t.cls == cls

/-- A class is in use while a live record or a ticket that is not FREE has it (R25). -/
def inUse (cls : Nat) (s : Hall) : Bool := decide (0 < recordsOf cls s) || decide (0 < ticketsOf cls s)

/-! ### Bindings, stations and replies -/

/-- The binding entry of a machine client's pocket (R128). -/
def findBinding (client pocket : Nat) : Table Binding → Option (Nat × Binding)
  | [] => none
  | (e, b) :: rest => if b.client = client ∧ b.pocket = pocket then some (e, b) else findBinding client pocket rest

/-- The binding entry that names a slot (R127). -/
def bindingOfSlot (slot : Nat) : Table Binding → Option (Nat × Binding)
  | [] => none
  | (e, b) :: rest => if b.slot = slot then some (e, b) else bindingOfSlot slot rest

/-- The station a client table entry names. -/
def ClientEntry.station : ClientEntry → Option (Fin 4)
  | .presetter station => some station
  | _ => Option.none

/-- The client whose entry names a station (R42). -/
def boundClientIn (station : Fin 4) : Table ClientEntry → Option Nat
  | [] => none
  | (n, e) :: rest => if e.station = some station then some n else boundClientIn station rest

/-- A station's bound client (R42). -/
def boundClient (station : Fin 4) (s : Hall) : Option Nat := boundClientIn station s.clients

/-- A station is GAUGING. -/
def StationState.isGauging : StationState → Bool
  | .gauging _ => true
  | _ => false

/-- What a unit answers to a request: the units' state after it, the completion code and body of the response, and the
notices the request causes, in order. The port places the response first (R190). -/
structure Reply where
  hall : Hall
  code : Code
  body : List Word
  notices : List Notice

/-- A refusal: no effect on any state, the code the rule names (Refused, spec/00_scope.md). -/
def refuse (code : Code) (s : Hall) : Reply := ⟨s, code, [], []⟩

/-- A refusal that carries a body (R203). -/
def refuseWith (code : Code) (body : List Word) (s : Hall) : Reply := ⟨s, code, body, []⟩

/-- OK, with the body of the response. -/
def accept (body : List Word) (s : Hall) : Reply := ⟨s, .ok, body, []⟩

/-- OK, or PROMISED when a tool was promised within the request (10.10). -/
def acceptOrPromised (taken : Option Nat) : Code := if taken.isSome then .promised else .ok

end Sys2Proof.Machine
end

