-- ==== Sys2Proof/Machine/Classes.lean ====
section
/-! DEFINITION. The requests of the class table (chapter 2): DEFINE-CLASS, QUERY-CLASS, DELETE-CLASS, STATS. -/

namespace Sys2Proof.Machine

/-- The shape a DEFINE-CLASS carries. -/
def shapeOf (w : ShapeWords) : Shape where
  nominalLength := w.nominalLength.toNat
  nominalRadius := w.nominalRadius.toNat
  gradeBase := signedOf w.gradeBase
  gradeStep := w.gradeStep.toNat
  topGrade := w.topGrade.toNat
  bandLow := signedOf w.bandLow
  bandHigh := signedOf w.bandHigh
  runoutLimit := w.runoutLimit.toNat
  lifeKind := w.lifeKind
  fullLife := w.fullLife.toNat

/-- Every shape field lies within its range in the table of 2.1, and the radius band's low end is not above its high
end (R27, check 2). -/
def Shape.inRange (x : Shape) : Bool :=
  decide (0 ≤ x.nominalLength ∧ x.nominalLength ≤ geometryLimit) &&
  decide (0 ≤ x.nominalRadius ∧ x.nominalRadius ≤ geometryLimit) &&
  decide (-1000000 ≤ x.gradeBase ∧ x.gradeBase ≤ 1000000) &&
  decide (1 ≤ x.gradeStep ∧ x.gradeStep ≤ 100000) &&
  decide (x.topGrade ≤ 15) &&
  decide (-100000 ≤ x.bandLow ∧ x.bandLow ≤ 100000) &&
  decide (-100000 ≤ x.bandHigh ∧ x.bandHigh ≤ 100000) &&
  decide (x.bandLow ≤ x.bandHigh) &&
  decide (0 ≤ x.runoutLimit ∧ x.runoutLimit ≤ 100000) &&
  decide (1 ≤ x.fullLife ∧ x.fullLife ≤ 1000000)

/-- The policy a DEFINE-CLASS carries, each value clamped to its range, the warn level against the full life of the
same request (R28). -/
def policyOf (fullLife : Nat) (w : PolicyWords) : Policy where
  warnLevel := clampNat 0 fullLife w.warnLevel.toNat
  regrindLoss := clampNat 0 1000000 w.regrindLoss.toNat
  maxRegrinds := clampNat 0 15 w.maxRegrinds.toNat
  validity := clampNat 0 65535 w.validity.toNat
  outLimit := clampNat 0 65535 w.outLimit.toNat
  waitLimit := clampNat 0 65535 w.waitLimit.toNat
  promotionAge := clampNat 0 65535 w.promotionAge.toNat
  minStock := clampNat 0 4096 w.minStock.toNat
  autoReplace := w.autoReplace

/-- A class entry as a response carries it: the shape and policy fields in the order of the table of 2.1, the usable
count and the low mark (R29, R31; log 13). -/
def classWords (c : ClassEntry) : List Word :=
  [intWord c.shape.nominalLength, intWord c.shape.nominalRadius, intWord c.shape.gradeBase, intWord c.shape.gradeStep,
   natWord c.shape.topGrade, intWord c.shape.bandLow, intWord c.shape.bandHigh, intWord c.shape.runoutLimit,
   natWord c.shape.lifeKind.code, natWord c.shape.fullLife, natWord c.policy.warnLevel, natWord c.policy.regrindLoss,
   natWord c.policy.maxRegrinds, natWord c.policy.validity, natWord c.policy.outLimit, natWord c.policy.waitLimit,
   natWord c.policy.promotionAge, natWord c.policy.minStock, markWord c.policy.autoReplace, natWord c.usable,
   markWord c.low]

/-- The counters and wrapped marks in the order in which R37 names them for STATS. R32 names no order for DELETE-CLASS,
whose answer takes the same one (DEDUCED, log 17). -/
def counterWords (c : ClassEntry) : List Word :=
  [c.issues.count, markWord c.issues.wrapped, c.rejects.count, markWord c.rejects.wrapped]

/-- Both counters at 0 and both marks no. -/
def ClassEntry.clearCounters (c : ClassEntry) : ClassEntry := { c with issues := ⟨0, false⟩, rejects := ⟨0, false⟩ }

/-- DEFINE-CLASS: the checks of R27, then the entry created or rewritten (R28, R29); it sends no notice. -/
def defineEntry (cls : Word) (shape : ShapeWords) (policy : PolicyWords) (s : Hall) : Reply :=
  let sh := shapeOf shape
  let po := policyOf sh.fullLife policy
  if ¬(1 ≤ cls.toNat ∧ cls.toNat ≤ 255) then refuse .range s
  else if !sh.inRange then refuse .range s
  else
    match s.classes.get cls.toNat with
    | none =>
      let c := (ClassEntry.mk sh po 0 false ⟨0, false⟩ ⟨0, false⟩).reassess
      accept (classWords c ++ [markWord true]) (s.putClass cls.toNat c)
    | some old =>
      if inUse cls.toNat s && decide (sh ≠ old.shape) then refuse .classInUse s
      else
        let c := { old with shape := sh, policy := po }.reassess
        accept (classWords c ++ [markWord false]) (s.putClass cls.toNat c)

/-- QUERY-CLASS (R31): the whole entry, with the numbers of live records and of tickets that show whether it is in use. -/
def queryEntry (cls : Word) (s : Hall) : Reply :=
  match s.lookUpClass cls with
  | .error code => refuse code s
  | .ok c => accept (classWords c ++ [natWord (recordsOf cls.toNat s), natWord (ticketsOf cls.toNat s)]) s

/-- DELETE-CLASS (R32): a class that is not in use becomes undefined; the answer is its counters. -/
def deleteEntry (cls : Word) (s : Hall) : Reply :=
  match s.lookUpClass cls with
  | .error code => refuse code s
  | .ok c =>
    if inUse cls.toNat s then refuse .classInUse s
    else accept (counterWords c) { s with classes := s.classes.del cls.toNat }

/-- STATS (R37): the counters and marks as they stand, then cleared when the option says so. -/
def classStats (cls : Word) (clear : Bool) (s : Hall) : Reply :=
  match s.lookUpClass cls with
  | .error code => refuse code s
  | .ok c => accept (counterWords c) (if clear then s.putClass cls.toNat c.clearCounters else s)

end Sys2Proof.Machine
end

