-- ==== Sys2Proof/Machine/Rendering.lean ====
section
/-! DEFINITION. Rendering programs (chapter 8): validation, the render, STORE-PROGRAM, QUERY-PROGRAM, RENDER-TEST. -/

namespace Sys2Proof.Machine

/-! ### Validation (R147 to R150) -/

/-- Why a program fails (the table of R147). -/
inductive Reason where
  | kind | parameter | noLoad | digitsOver | skipSpan | endStep | output | size
  deriving DecidableEq, Repr

/-- The reason codes (R203). -/
def Reason.code : Reason → Nat
  | .kind => 1
  | .parameter => 2
  | .noLoad => 3
  | .digitsOver => 4
  | .skipSpan => 5
  | .endStep => 6
  | .output => 7
  | .size => 8

/-- A printable character: code 32 to 126 (R146). -/
def printable (c : Byte) : Bool := decide (32 ≤ c.toNat ∧ c.toNat ≤ 126)

/-- The fields by code (R207). -/
def fieldByCode : Nat → Option Field
  | 1 => some .length
  | 2 => some .radius
  | 3 => some .diameter
  | 4 => some .life
  | 5 => some .tool
  | 6 => some .pocket
  | 7 => some .grade
  | _ => none

/-- The units by code (R207). -/
def unitByCode : Nat → Option LengthUnit
  | 0 => some .none
  | 1 => some .mm
  | 2 => some .inch
  | _ => Option.none

/-- The punctuation entries by code (R207). -/
def markByCode : Nat → Option Mark
  | 1 => some .fill
  | 2 => some .point
  | 3 => some .plus
  | 4 => some .minus
  | 5 => some .sep
  | 6 => some .eol
  | _ => none

/-- The field is a geometry field, which takes MM or INCH; the others take NONE (R148). -/
def Field.isGeometry : Field → Bool
  | .length => true
  | .radius => true
  | .diameter => true
  | .life => false
  | .tool => false
  | .pocket => false
  | .grade => false

/-- The unit suits the field and the decimals lie within the range the unit allows (R146, R148). -/
def unitSuits (f : Field) (u : LengthUnit) (decimals : Nat) : Bool :=
  match u with
  | .mm => f.isGeometry && decide (decimals ≤ 4)
  | .inch => f.isGeometry && decide (decimals ≤ 5)
  | .none => !f.isGeometry && decide (decimals = 0)

/-- A LOAD from its two parameter bytes (R207, R148). -/
def loadOf (a b : Byte) : Option Step :=
  match fieldByCode (a.toNat / 16), unitByCode (a.toNat % 4) with
  | some f, some u =>
    let decimals := b.toNat / 16
    let width := b.toNat % 16
    if unitSuits f u decimals && decide (1 ≤ width ∧ width ≤ 12) && decide (decimals < width) then
      some (.load f u decimals width)
    else none
  | _, _ => none

/-- A SETMARK from its two parameter bytes; a character of 0 is none (R146, R207). -/
def setmarkOf (a c : Byte) : Option Step :=
  match markByCode a.toNat with
  | none => none
  | some .fill => if c.toNat = 0 then some (.setmark .fill none) else
      if printable c then some (.setmark .fill (some c)) else none
  | some .plus => if c.toNat = 0 then some (.setmark .plus none) else
      if printable c then some (.setmark .plus (some c)) else none
  | some .eol => if printable c || c.toNat == 10 || c.toNat == 13 then some (.setmark .eol (some c)) else none
  | some m => if printable c then some (.setmark m (some c)) else none

/-- The step's own form (R148): the step, or none when a parameter is out of its range. -/
def stepOf (kind : Byte) (params : List Byte) : Option Step :=
  match kind.toNat, params with
  | 1, _ :: chars => if chars.all printable then some (.literal chars) else none
  | 2, [a, b] => loadOf a b
  | 3, [n] => if 1 ≤ n.toNat ∧ n.toNat ≤ 12 then some (.digits n.toNat) else none
  | 4, [] => some .force
  | 5, [] => some .point
  | 6, [] => some .sign
  | 7, [e] => (markByCode e.toNat).map Step.mark
  | 8, [e, c] => setmarkOf e c
  | 9, [n] => if 1 ≤ n.toNat ∧ n.toNat ≤ 47 then some (.skipIfZero n.toNat) else none
  | 10, [] => some .endStep
  | _, _ => none

/-- The greatest output of a step (R146). -/
def Step.greatest : Step → Nat
  | .literal chars => chars.length
  | .load .. => 0
  | .digits n => n
  | .force => 0
  | .point => 1
  | .sign => 1
  | .mark _ => 1
  | .setmark .. => 0
  | .skipIfZero _ => 0
  | .endStep => 0

/-- A piece that no SKIP-IF-ZERO may pass over: a LOAD or an END (R149). -/
def Piece.blocksSkip : Piece → Bool
  | .whole kind _ => kind == 0x02#8 || kind == 0x0a#8
  | _ => false

/-- The bytes that the walk does not split into steps: those from the count byte of a LITERAL whose count is out of
range (R207). There are none without such a LITERAL, which ends the walk. -/
def unreadBytes (pieces : List Piece) : List Byte :=
  match pieces.getLast? with
  | some (.badLiteral bytes) => bytes
  | _ => []

/-- The most steps, none of them a LOAD or an END, that the bytes from a kind byte on could hold (R149), given what the
bytes from each place behind that kind byte on could hold. A step that the bytes cut is one step; a LITERAL whose count
is out of range and a step of no kind could end at any place. -/
def mostStepsAt (kind : Byte) (rest : List Byte) (behind : List Nat) : Nat :=
  match stepForm kind rest with
  | .cut => 1
  | .badLiteral => 1 + behind.tail.foldl max 0
  | .badKind => 1 + behind.foldl max 0
  | .takes n =>
    if rest.length < n then 1
    else if Piece.blocksSkip (.whole kind (rest.take n)) then 0
    else 1 + behind.getD n 0

/-- That figure for each place in the bytes, the end among them. -/
def mostSteps : List Byte → List Nat
  | [] => [0]
  | kind :: rest =>
    let behind := mostSteps rest
    mostStepsAt kind rest behind :: behind

/-- A span that runs `past` steps beyond the last piece runs past the last step or over a LOAD or END (R149). So it does
when the bytes behind the count byte of an unread LITERAL could not hold that many steps, wherever that LITERAL ends;
where they could, it is left open (log 6). -/
def runsPast (past : Nat) (unread : List Byte) : Bool :=
  decide ((mostSteps unread).tail.foldl max 0 < past) || Config.skipPastUnreadable past unread

/-- A SKIP-IF-ZERO's span fails: it passes over a LOAD or END, or runs past the last step (R149). -/
def spanFails (n : Nat) (rest : List Piece) : Bool :=
  (rest.take n).any Piece.blocksSkip || (decide (rest.length < n) && runsPast (n - rest.length) (unreadBytes rest))

/-- What the validation walk carries: the index and the bytes before the step, whether a LOAD has been met, the digit
budget, and the greatest output so far (R149, R150). -/
structure Walk where
  index : Nat
  offset : Nat
  loaded : Bool
  budget : Nat
  total : Nat
  deriving DecidableEq, Repr

/-- The step's place in the program (R149), in the order NO-LOAD, DIGITS-OVER, SKIP-SPAN, END. -/
def placeFails (w : Walk) (step : Step) (rest : List Piece) : Option Reason :=
  let last := rest.isEmpty
  match step with
  | .digits n =>
    if !w.loaded then some .noLoad
    else if w.budget < n then some .digitsOver
    else if last then some .endStep else none
  | .sign => if !w.loaded then some .noLoad else if last then some .endStep else none
  | .skipIfZero n =>
    if !w.loaded then some .noLoad
    else if spanFails n rest then some .skipSpan
    else if last then some .endStep else none
  | .endStep => if last then none else some .endStep
  | _ => if last then some .endStep else none

/-- The program's limits (R150): the greatest output, then the step's index and the end of its encoding. -/
def limitFails (w : Walk) (step : Step) (size : Nat) : Option Reason :=
  if Config.blockChars < w.total + step.greatest then some .output
  else if Config.programSteps ≤ w.index ∨ Config.programBytes < w.offset + size then some .size
  else none

/-- What the walk carries past a step. -/
def Walk.next (w : Walk) (step : Step) (size : Nat) : Walk where
  index := w.index + 1
  offset := w.offset + size
  loaded := w.loaded || (match step with | .load .. => true | _ => false)
  budget := match step with
    | .load _ _ _ width => width
    | .digits n => w.budget - n
    | _ => w.budget
  total := w.total + step.greatest

/-- The validation walk (R147): the steps and the greatest output, or the index and reason of the first failure. -/
def validateFrom (w : Walk) : List Piece → Except (Nat × Reason) (List Step × Nat)
  | [] => .ok ([], w.total)
  | piece :: rest =>
    match piece with
    | .cut => .error (w.index, .kind)
    | .badKind => .error (w.index, .kind)
    | .badLiteral _ => .error (w.index, .parameter)
    | .whole kind params =>
      match stepOf kind params with
      | none => .error (w.index, .parameter)
      | some step =>
        match placeFails w step rest with
        | some reason => .error (w.index, reason)
        | none =>
          match limitFails w step (1 + params.length) with
          | some reason => .error (w.index, reason)
          | none =>
            match validateFrom (w.next step (1 + params.length)) rest with
            | .error e => .error e
            | .ok (steps, total) => .ok (step :: steps, total)

/-- The validation of an encoded program; a program with no steps fails with END at index 0 (R147). -/
def validate (bytes : List Byte) : Except (Nat × Reason) (List Step × Nat) :=
  match splitSteps bytes with
  | [] => .error (0, .endStep)
  | pieces => validateFrom ⟨0, 0, false, 0, 0⟩ pieces

/-! ### The render (R152 to R161) -/

/-- The punctuation set; FILL and PLUS may hold none (R153). -/
structure Punctuation where
  fill : Option Byte
  point : Byte
  plus : Option Byte
  minus : Byte
  sep : Byte
  eol : Byte
  deriving DecidableEq, Repr

/-- The defaults: space, ".", "+", "-", ",", line feed (R153). -/
def Punctuation.default : Punctuation := ⟨some 32#8, 46#8, some 43#8, 45#8, 44#8, 10#8⟩

/-- The character an entry holds, or none. -/
def Punctuation.char (p : Punctuation) : Mark → Option Byte
  | .fill => p.fill
  | .point => some p.point
  | .plus => p.plus
  | .minus => some p.minus
  | .sep => some p.sep
  | .eol => some p.eol

/-- A performed SETMARK replaces its entry's character (R153); none goes to FILL and PLUS alone. -/
def Punctuation.set (p : Punctuation) (m : Mark) (c : Option Byte) : Punctuation :=
  match m with
  | .fill => { p with fill := c }
  | .point => { p with point := c.getD p.point }
  | .plus => { p with plus := c }
  | .minus => { p with minus := c.getD p.minus }
  | .sep => { p with sep := c.getD p.sep }
  | .eol => { p with eol := c.getD p.eol }

/-- The inputs of a render beside the program (R152). -/
structure RenderInput where
  offset : Int
  pocket : Nat
  length : Int
  radius : Int
  grade : Nat
  life : Nat
  tool : Nat
  deriving DecidableEq, Repr

/-- The render state (R154), with the punctuation set. -/
structure RenderState where
  value : Int
  negative : Bool
  zero : Bool
  digits : List Nat
  cursor : Nat
  suppress : Bool
  marks : Punctuation
  output : List Byte
  deriving DecidableEq, Repr

/-- The render state at the start of a render (R154). The manual gives no cursor there and says that no loaded value is
held; the model's cursor and value are 0, and a valid program reads neither before its first LOAD (log 24). -/
def RenderState.start : RenderState := ⟨0, false, false, [], 0, false, Punctuation.default, []⟩

/-- What a render stopped by its significance check reports (R161). -/
structure Significance where
  index : Nat
  field : Field
  value : Int
  width : Nat
  deriving DecidableEq, Repr

/-- The source number of a field (R155). -/
def sourceOf (x : RenderInput) : Field → Int
  | .length => x.length + x.offset
  | .radius => x.radius
  | .diameter => 2 * x.radius
  | .life => x.life
  | .tool => x.tool
  | .pocket => x.pocket
  | .grade => x.grade

/-- The value a LOAD forms (R156). -/
def loadValue (u : LengthUnit) (decimals : Nat) (x : Int) : Int :=
  match u with
  | .mm => roundDiv (x * 10 ^ decimals) 10000
  | .inch => roundDiv (x * 10 ^ decimals) 254000
  | .none => x

/-- A number as exactly that many decimal digits, with zeros added on the left (R156). -/
def digitString : Nat → Nat → List Nat
  | 0, _ => []
  | w + 1, n => (n / 10 ^ w % 10) :: digitString w n

/-- The character of a decimal digit. -/
def digitChar (d : Nat) : Byte := BitVec.ofNat 8 (48 + d)

/-- What a LOAD that passes its significance check sets (R156). -/
def RenderState.load (st : RenderState) (value : Int) (width : Nat) : RenderState :=
  { st with
    value := value
    negative := decide (value < 0)
    zero := decide (value = 0)
    digits := digitString width value.natAbs
    cursor := 0
    suppress := true }

/-- The characters DIGITS emits for a run of digits, and suppression after them (R157). -/
def emitDigits (fill : Option Byte) : Bool → List Nat → List Byte × Bool
  | suppress, [] => ([], suppress)
  | suppress, d :: rest =>
    if suppress && d == 0 then
      let after := emitDigits fill true rest
      (fill.toList ++ after.1, after.2)
    else
      let after := emitDigits fill false rest
      (digitChar d :: after.1, after.2)

/-- A performed step that is no LOAD, SKIP-IF-ZERO or END (R157 to R159). -/
def RenderState.perform (st : RenderState) : Step → RenderState
  | .literal chars => { st with output := st.output ++ chars }
  | .digits n =>
    let emitted := emitDigits st.marks.fill st.suppress ((st.digits.drop st.cursor).take n)
    { st with output := st.output ++ emitted.1, suppress := emitted.2, cursor := st.cursor + n }
  | .force => { st with suppress := false }
  | .point => { st with output := st.output ++ [st.marks.point], suppress := false }
  | .sign => { st with output := st.output ++ (if st.negative then [st.marks.minus] else st.marks.plus.toList) }
  | .mark m => { st with output := st.output ++ (st.marks.char m).toList }
  | .setmark m c => { st with marks := st.marks.set m c }
  | .load .. => st
  | .skipIfZero _ => st
  | .endStep => st

/-- The steps from an index on, the first `skip` of them passed over (R152, R160): the handoff block, or the report of
the LOAD that failed its significance check (R156, R161). -/
def renderFrom (x : RenderInput) : Nat → Nat → RenderState → List Step → Except Significance (List Byte)
  | _, _, st, [] => .ok st.output
  | i, skip + 1, st, _ :: rest => renderFrom x (i + 1) skip st rest
  | i, 0, st, step :: rest =>
    match step with
    | .endStep => .ok st.output
    | .skipIfZero n => renderFrom x (i + 1) (if st.zero then n else 0) st rest
    | .load f u decimals width =>
      let value := loadValue u decimals (sourceOf x f)
      if 10 ^ width ≤ value.natAbs then .error ⟨i, f, value, width⟩
      else renderFrom x (i + 1) 0 (st.load value width) rest
    | other => renderFrom x (i + 1) 0 (st.perform other) rest

/-- A render of a stored program (R152). -/
def render (steps : List Step) (x : RenderInput) : Except Significance (List Byte) :=
  renderFrom x 0 0 RenderState.start steps

/-- The body of a response of SIGNIFICANCE (R203). -/
def Significance.body (e : Significance) : List Word :=
  [natWord e.index, natWord e.field.code, intWord e.value, natWord e.width]

/-- The inputs of a render of a record (R130, R139, R162): a record without geometry has none to give. -/
def renderInput (r : Record) (offset : Int) (pocket : Nat) : RenderInput :=
  let g : Geometry := (r.measured.map Prod.fst).getD ⟨0, 0, 0, 0⟩
  ⟨offset, pocket, g.length, g.radius, g.grade, r.life, r.tool⟩

/-! ### Requests -/

/-- The number of MACHINE clients whose entry names a program (R151). -/
def machinesNaming (p : Fin 16) (s : Hall) : Nat :=
  s.clients.count fun e =>
    match e with
    | .machine program _ _ _ => decide (program = p)
    | _ => false

/-- STORE-PROGRAM (R147, R151): the entry is written only when the whole program passes. -/
def storeSteps (program : Byte) (bytes : List Byte) (s : Hall) : Reply :=
  if h : program.toNat < 16 then
    match validate bytes with
    | .error (index, reason) => refuseWith .badProgram [natWord index, natWord reason.code] s
    | .ok (steps, greatest) =>
      let wasEmpty := !s.programs.has program.toNat
      accept [natWord program.toNat, natWord steps.length, natWord bytes.length, natWord greatest, markWord wasEmpty,
          natWord (machinesNaming ⟨program.toNat, h⟩ s)]
        { s with programs := s.programs.put program.toNat ⟨steps, bytes, greatest⟩ }
  else refuse .range s

/-- QUERY-PROGRAM (R163, R207): the figures, then word 0 and the bytes exactly as they were stored. -/
def queryStored (program : Word) (s : Hall) : Reply :=
  match programOf program with
  | none => refuse .range s
  | some p =>
    match s.programs.get p.val with
    | none => refuse .noProgram s
    | some stored =>
      accept ([natWord stored.steps.length, natWord stored.bytes.length, natWord stored.greatest,
          packWord [packField 0 8 p.val, packField 8 8 stored.bytes.length]] ++ packBytes stored.bytes) s

/-- The gauge-line offset of a RENDER-TEST or a SET-CLIENT lies within ±1,000,000 (R162, R191). -/
def offsetInRange (n : Int) : Bool := decide (-1000000 ≤ n ∧ n ≤ 1000000)

/-- RENDER-TEST (R162): the checks in their order, then the render with pocket 0. -/
def testRender (program tool offset : Word) (s : Hall) : Reply :=
  match programOf program with
  | none => refuse .range s
  | some p =>
    if ¬(1 ≤ tool.toNat ∧ tool.toNat ≤ maxToolNumber) ∨ !offsetInRange (signedOf offset) then refuse .range s
    else
      match s.programs.get p.val with
      | none => refuse .noProgram s
      | some stored =>
        match s.findTool tool.toNat with
        | none => refuse .unknownTool s
        | some (_, r) =>
          if r.measured.isNone then refuse .state s
          else
            match render stored.steps (renderInput r (signedOf offset) 0) with
            | .error e => refuseWith .significance e.body s
            | .ok block => accept (blockWords block ++ [natWord block.length, natWord stored.greatest]) s

end Sys2Proof.Machine
end

