-- ==== Sys2Proof/Machine/Clients.lean ====
section
/-! DEFINITION. The port's own requests (chapter 10): SET-CLIENT, QUERY-CLIENT, ATTENTION, SET-ENABLES, RESTART, WIPE,
IDENTIFY. -/

namespace Sys2Proof.Machine

/-- The entry a SET-CLIENT carries, or none when a field is out of its range; the severity is clamped (R192, check 3). -/
def clientEntryOf : ClientForm → Option ClientEntry
  | .none => some .none
  | .toolroom => some .toolroom
  | .crib => some .crib
  | .presetter station => (stationOf station).map ClientEntry.presetter
  | .machine program pockets severity offset =>
    match programOf program with
    | Option.none => Option.none
    | some p =>
      if 1 ≤ pockets.toNat ∧ pockets.toNat ≤ 240 ∧ offsetInRange (signedOf offset) = true then
        some (.machine p pockets.toNat (clampNat 1 255 severity.toNat) (signedOf offset))
      else Option.none

/-- Another client's entry names the station (R192, check 4). -/
def stationTaken (client : Nat) (station : Fin 4) (s : Hall) : Bool :=
  s.clients.any fun e => e.1 != client && decide (e.2.station = some station)

/-- The number of bindings that name a client (R194). -/
def clientBindings (client : Nat) (s : Hall) : Nat := s.bindings.count fun b => b.client == client

/-- The number of tickets with the client as requester or destination (R194). -/
def clientTickets (client : Nat) (s : Hall) : Nat :=
  s.tickets.count fun t => t.requester == client || decide (t.dest = some client)

/-- The client's station is GAUGING (R192, R194). -/
def clientGauging (client : Nat) (s : Hall) : Bool :=
  match (s.client client).station with
  | some n => (s.station n).state.isGauging
  | none => false

/-- The client has work: bindings, tickets, or a session at its station (R192, check 5). -/
def clientHasWork (client : Nat) (s : Hall) : Bool :=
  decide (0 < clientBindings client s) || decide (0 < clientTickets client s) || clientGauging client s

/-- Write an entry; role NONE is unlisted. -/
def Hall.putClient (s : Hall) (client : Nat) (e : ClientEntry) : Hall :=
  match e with
  | .none => { s with clients := s.clients.del client }
  | other => { s with clients := s.clients.put client other }

/-- An entry as a response carries it: the role and that role's fields (R193, R194). -/
def ClientEntry.words (e : ClientEntry) : List Word :=
  natWord e.role.code ::
    match e with
    | .presetter station => [natWord station.val]
    | .machine program pockets severity offset =>
      [natWord program.val, natWord pockets, natWord severity, intWord offset]
    | _ => []

/-- SET-CLIENT: the checks of R192 in their order, then the entry is written (R193). -/
def setEntry (client : Word) (form : ClientForm) (s : Hall) : Reply :=
  if 63 < client.toNat then refuse .range s
  else if client.toNat = 0 then refuse .notPermitted s
  else
    match clientEntryOf form with
    | none => refuse .range s
    | some e =>
      let old := s.client client.toNat
      let taken := match e.station with
        | some n => stationTaken client.toNat n s
        | none => false
      if taken then refuse .stationTaken s
      else if decide (e.role ≠ old.role ∨ e.station ≠ old.station) && clientHasWork client.toNat s then
        refuse .clientBusy s
      else accept (e.words ++ [markWord (decide (e.role ≠ old.role))]) (s.putClient client.toNat e)

/-- QUERY-CLIENT (R194). RANGE comes before NOT-PERMITTED (DESIGN CHOICE, log 27), and the answer has a word for the
GAUGING mark of a PRESETTER's station alone (DEDUCED, log 28). -/
def queryEntryOf (sender : Nat) (client : Word) (s : Hall) : Reply :=
  if 63 < client.toNat then refuse .range s
  else if decide ((s.client sender).role ≠ .toolroom) && client.toNat != sender then refuse .notPermitted s
  else
    let e := s.client client.toNat
    let gauging := match e.station with
      | some n => [markWord (s.station n).state.isGauging]
      | none => []
    accept (e.words ++ [natWord (clientBindings client.toNat s), natWord (clientTickets client.toNat s)] ++ gauging) s

/-- The flags or the enables as a word (R204). -/
def flagWord (f : BitVec 7) : Word := f.setWidth 32

/-- ATTENTION (R196): the flags and enables as they stand, then the chosen flags cleared. -/
def readAttention (choice : BitVec 7) (s : Hall) : Reply :=
  accept [flagWord s.flags, flagWord s.enables] (clearFlags choice s)

/-- SET-ENABLES (R196). -/
def storeEnables (enables : BitVec 7) (s : Hall) : Reply :=
  accept [flagWord enables, flagWord s.flags] { s with enables := enables }

/-- RESTART (R198): OK; the port makes the start pending with this answer (Machine/Port.lean). -/
def answerRestart (s : Hall) : Reply := accept [] s

/-- A start of the part could not be told from work in progress: a station is GAUGING, or a channel is neither IDLE nor
OFF (R199). -/
def wipeBusy (s : Hall) : Bool :=
  s.stations.toList.any (fun st => st.state.isGauging) ||
    s.channels.toList.any fun c => !(decide (c.state = .idle) || decide (c.state = .off))

/-- What WIPE leaves of a class: its definition, counters at 0, usable count 0, the low mark recomputed (R40). -/
def ClassEntry.wiped (c : ClassEntry) : ClassEntry :=
  { c with usable := 0, issues := ⟨0, false⟩, rejects := ⟨0, false⟩ }.reassess

/-- WIPE (R199): every record, ticket and binding freed, every queue emptied, the class counters at 0; the configuration
is kept. The answer is the numbers freed. -/
def wipeHall (s : Hall) : Reply :=
  if wipeBusy s then refuse .busy s
  else
    accept [natWord s.records.length, natWord s.tickets.length, natWord s.bindings.length]
      { s with
        records := []
        index := []
        chains := []
        tickets := []
        waitQueues := []
        channels := mapBank (fun c => { c with queue := [] }) s.channels
        handover := []
        bindings := []
        classes := s.classes.mapValues ClassEntry.wiped }

/-- IDENTIFY (R200): part code 720, revision 1, the capacities, and the last start's kind and cause. -/
def identifyPart (s : Hall) : Reply :=
  accept
    [720, 1, natWord Config.recordSlots, 255, natWord Config.tickets, natWord Config.bindingEntries, 16, 4, 16, 64,
      natWord Config.inboundPlaces, natWord Config.outboundPlaces, natWord s.startKind.code, natWord s.startCause.code]
    s

end Sys2Proof.Machine
end

