-- ==== Sys2Proof/Machine/Records.lean ====
section
/-! DEFINITION. The requests the record store answers (chapter 1): ENROL, RETIRE, HOLD, RELEASE-HOLD, MOVE-BIN,
QUERY-TOOL, FIND-CLASS. -/

namespace Sys2Proof.Machine

/-- The initial life of an ENROL: the full life when absent, else clamped to 1 to the full life (R12). -/
def initialLife (fullLife : Nat) : Option Word → Nat
  | none => fullLife
  | some w => clampNat 1 fullLife w.toNat

/-- A record as ENROL makes it (R13, R4). -/
def newRecord (tool cls life : Nat) (location : Location) : Record where
  tool := tool
  cls := cls
  status := .new
  rejectCause := none
  location := location
  measured := none
  life := life
  regrinds := 0
  warned := false
  ended := false
  outAge := 0
  overdue := false
  dest := none
  opened := false

/-- ENROL: the checks of R12 in their order, then a NEW record in the lowest free slot (R13). -/
def enrolTool (tool cls : Word) (loc : CribLoc) (life : Option Word) (s : Hall) : Reply :=
  if ¬(1 ≤ tool.toNat ∧ tool.toNat ≤ maxToolNumber) then refuse .range s
  else if ¬(1 ≤ cls.toNat ∧ cls.toNat ≤ 255) then refuse .range s
  else
    match cribLocation loc with
    | none => refuse .range s
    | some location =>
      match s.classes.get cls.toNat with
      | none => refuse .noClass s
      | some c =>
        if s.index.has tool.toNat then refuse .duplicate s
        else
          match s.records.lowestFree Config.recordSlots with
          | none => refuse .storeFull s
          | some slot =>
            let l := initialLife c.shape.fullLife life
            accept [natWord slot, tool, natWord l]
              { s with
                records := s.records.put slot (newRecord tool.toNat cls.toNat l location)
                index := s.index.put tool.toNat slot }

/-- Free a record's slot and take its tool number out of the index (R9, R10). -/
def freeRecord (slot tool : Nat) (s : Hall) : Hall :=
  { s with records := s.records.del slot, index := s.index.del tool }

/-- The answer to RETIRE (R14): slot, life remaining and regrind count at retirement. -/
def retiredBody (slot : Nat) (r : Record) : List Word := [natWord slot, natWord r.life, natWord r.regrinds]

/-- RETIRE (R14). A READY record leaves its chain and the usable count falls. -/
def retireTool (tool : Word) (s : Hall) : Reply :=
  match s.lookUpTool tool with
  | .error code => refuse code s
  | .ok (slot, r) =>
    match r.status with
    | .gauging _ => refuse .busy s
    | .promised => refuse .state s
    | .out => refuse .state s
    | .mounted => refuse .state s
    | .ready =>
      let fall := usableFall r.cls (leaveChain slot r.cls s)
      ⟨freeRecord slot r.tool fall.1, .ok, retiredBody slot r, fall.2⟩
    | .new => accept (retiredBody slot r) (freeRecord slot r.tool s)
    | .held _ => accept (retiredBody slot r) (freeRecord slot r.tool s)

/-- HOLD (R15): a NEW or READY record goes to HELD with reason MANUAL; the answer is the state it left. -/
def holdTool (tool : Word) (s : Hall) : Reply :=
  match s.lookUpTool tool with
  | .error code => refuse code s
  | .ok (slot, r) =>
    match r.status with
    | .gauging _ => refuse .busy s
    | .promised => refuse .state s
    | .out => refuse .state s
    | .mounted => refuse .state s
    | .held _ => refuse .state s
    | .new => accept [natWord r.status.code] (s.putRecord slot { r with status := .held .manual })
    | .ready =>
      let held := holdReady slot r .manual s
      ⟨held.1, .ok, [natWord r.status.code], held.2⟩

/-- A measurement is fresh when the validity is 0 or its age is less than the validity (R16). -/
def fresh (validity : Nat) (r : Record) : Bool :=
  match r.measured with
  | none => false
  | some m => decide (validity = 0) || decide (m.2.age < validity)

/-- The record goes to NEW with the geometry, the measurement and the reject cause cleared (R1, R16). -/
def Record.clearGeometry (r : Record) : Record :=
  { r with status := .new, measured := none, rejectCause := none }

/-- The measurement validity of a record's class, read at the moment (R16, R102, R179). -/
def validityOf (cls : Nat) (s : Hall) : Nat := ((s.classes.get cls).map fun c => c.policy.validity).getD 0

/-- RELEASE-HOLD without regrind (R16): by the hold reason, and for AUDIT and MANUAL by geometry, life and freshness.
The answer is the state the release gives, READY or NEW (log 11). -/
def releaseWithout (slot : Nat) (r : Record) (reason : HoldReason) (s : Hall) : Reply :=
  let toNew := accept [natWord RecordStatus.new.code] (s.putRecord slot r.clearGeometry)
  let judged :=
    if r.measured.isSome && decide (0 < r.life) && fresh (validityOf r.cls s) r then
      let o := enterReady slot r false s
      ⟨o.hall, .ok, [natWord RecordStatus.ready.code], o.notices⟩
    else toNew
  match reason with
  | .worn => refuse .state s
  | .audit => judged
  | .manual => judged
  | .rejected => toNew
  | .stale => toNew
  | .suspect => toNew

/-- RELEASE-HOLD with regrind (R17): a new count and a new life, or EXHAUSTED with nothing changed. -/
def releaseRegrind (slot : Nat) (r : Record) (s : Hall) : Reply :=
  match s.classes.get r.cls with
  | none => refuse .exhausted s
  | some c =>
    let count := r.regrinds + 1
    if c.policy.maxRegrinds < count then refuse .exhausted s
    else if c.shape.fullLife ≤ count * c.policy.regrindLoss then refuse .exhausted s
    else
      let life := c.shape.fullLife - count * c.policy.regrindLoss
      accept [natWord count, natWord life]
        (s.putRecord slot { r.clearGeometry with regrinds := count, life := life, warned := false, ended := false })

/-- RELEASE-HOLD: the record's state first, then by the regrind choice (R16, R17). -/
def releaseHeld (tool : Word) (regrind : Bool) (s : Hall) : Reply :=
  match s.lookUpTool tool with
  | .error code => refuse code s
  | .ok (slot, r) =>
    match r.status with
    | .gauging _ => refuse .busy s
    | .held reason => if regrind then releaseRegrind slot r s else releaseWithout slot r reason s
    | .new => refuse .state s
    | .ready => refuse .state s
    | .promised => refuse .state s
    | .out => refuse .state s
    | .mounted => refuse .state s

/-- MOVE-BIN (R18): a NEW, READY or HELD record takes the new location and keeps every other field. The location's
range is checked with the tool number's (R18, R10; log 12). -/
def moveTool (tool : Word) (loc : CribLoc) (s : Hall) : Reply :=
  match cribLocation loc with
  | none => refuse .range s
  | some location =>
    match s.lookUpTool tool with
    | .error code => refuse code s
    | .ok (slot, r) =>
      match r.status with
      | .gauging _ => refuse .busy s
      | .promised => refuse .state s
      | .out => refuse .state s
      | .mounted => refuse .state s
      | .new => accept [] (s.putRecord slot { r with location := location })
      | .ready => accept [] (s.putRecord slot { r with location := location })
      | .held _ => accept [] (s.putRecord slot { r with location := location })

/-- QUERY-TOOL (R19): the record's image, in every state. -/
def queryRecord (tool : Word) (s : Hall) : Reply :=
  match s.lookUpTool tool with
  | .error code => refuse code s
  | .ok (slot, r) => accept (recordImage slot r) s

/-- One entry of a FIND-CLASS response (R20, R206). -/
def chainEntry (records : Table Record) (slot : Nat) : List Word :=
  match records.get slot with
  | some r => [natWord slot, natWord r.tool, natWord r.life, natWord r.grade, r.location.word]
  | none => [natWord slot, 0, 0, 0, 0]

/-- FIND-CLASS (R20): the number of entries, the chain's length, and up to 12 entries from the start position. A start
position out of range comes before NO-CLASS (DESIGN CHOICE, log 26). -/
def findInClass (cls start : Word) (s : Hall) : Reply :=
  if ¬(1 ≤ cls.toNat ∧ cls.toNat ≤ 255) ∨ 4096 ≤ start.toNat then refuse .range s
  else
    match s.classes.get cls.toNat with
    | none => refuse .noClass s
    | some _ =>
      let chain := s.chains.list cls.toNat
      let page := (chain.drop start.toNat).take Config.pageEntries
      accept (natWord page.length :: natWord chain.length :: page.flatMap (chainEntry s.records)) s

end Sys2Proof.Machine
end

