-- ==== Sys2Proof/Machine/Issue.lean ====
section
/-! DEFINITION. Issue tickets and wait queues (chapter 5): ISSUE, CANCEL, RETURN, SET-ISSUE-MODE, QUERY-ISSUE,
QUERY-TICKET, the replacement service, lapse and the ageing of tickets at a sweep. -/

namespace Sys2Proof.Machine

/-! ### Creating and serving tickets (R92, R93, R97) -/

/-- The top grade of a class, read when a default grade range is formed (R92, R97). -/
def topGradeOf (cls : Nat) (s : Hall) : Nat := ((s.classes.get cls).map fun c => c.shape.topGrade).getD 0

/-- The destination of an ISSUE that gives none: the sender when it is a MACHINE client (R92). -/
def defaultDest (client : Nat) (s : Hall) : Option Nat :=
  match (s.client client).role with
  | .machine => some client
  | _ => none

/-- The ticket an ISSUE fills, WAITING until it is served (R92). -/
def issuedTicket (client : Nat) (tag : Word) (form : IssueForm) (cls : Nat) (specific : Option Nat) (s : Hall) :
    Ticket where
  status := .waiting
  requester := client
  tag := tag
  origin := .requested
  band := form.band
  cls := cls
  lowGrade := (form.range.map fun g => g.1.toNat).getD 0
  highGrade := (form.range.map fun g => g.2.toNat).getD (topGradeOf cls s)
  life := if form.life = 0 then 1 else form.life.toNat
  specific := specific
  dest := (form.dest.map BitVec.toNat).or (defaultDest client s)
  notify := form.notify
  age := 0

/-- What serving a ticket by class came to (R93). -/
structure Served where
  hall : Hall
  /-- The slot, the record and the collection of the promise, or none when the ticket waits. -/
  promised : Option (Nat × Record × Joined)
  /-- The tickets ahead of a ticket that waits. -/
  ahead : Nat

/-- The first record of a chain that meets a ticket, with its slot (R93). -/
def selectFrom (records : Table Record) (t : Ticket) : List Nat → Option (Nat × Record)
  | [] => none
  | slot :: rest =>
    match records.get slot with
    | some r => if meets r t then some (slot, r) else selectFrom records t rest
    | none => selectFrom records t rest

/-- A ticket that is not served at once waits at the tail of its band (R86, R93). -/
def letWait (n : Nat) (t : Ticket) (s : Hall) : Served :=
  let s := joinWaitQueue n t (s.putTicket n t)
  ⟨s, none, (s.waitQueues.list t.cls).idxOf n⟩

/-- A ticket just created is promised the record (R94); it never enters a wait queue. -/
def promiseNew (n : Nat) (t : Ticket) (slot : Nat) (r : Record) (s : Hall) : Served :=
  let p := promise n { t with status := .promised slot } slot r s
  ⟨p.1, some (slot, r, p.2), 0⟩

/-- A ticket by class proceeds (R93): with the mode ONLINE the first record of the chain that meets it, else it waits. -/
def serveByClass (n : Nat) (t : Ticket) (s : Hall) : Served :=
  match s.mode with
  | .online =>
    match selectFrom s.records t (s.chains.list t.cls) with
    | some (slot, r) => promiseNew n t slot r s
    | none => letWait n t s
  | _ => letWait n t s

/-- The body of a PROMISED answer to ISSUE (R92): the note is set for a drawer queue (R206). -/
def issuePromisedBody (n slot : Nat) (r : Record) (joined : Joined) : List Word :=
  [natWord n, natWord r.tool, natWord slot, r.location.word, natWord r.grade, natWord r.life,
    markWord (decide (joined = .channel))]

/-- The answer to an ISSUE whose ticket was served (R92, R93). -/
def answerServed (n : Nat) (t : Ticket) (v : Served) : Reply :=
  match v.promised with
  | some (slot, r, joined) => ⟨v.hall, .promised, issuePromisedBody n slot r joined, []⟩
  | none => ⟨v.hall, .queued, [natWord n, natWord t.band.code, natWord v.ahead], []⟩

/-- The ranges of an ISSUE (R91, check 1). -/
def issueInRange (form : IssueForm) (s : Hall) : Bool :=
  (if form.byTool then decide (1 ≤ form.target.toNat ∧ form.target.toNat ≤ maxToolNumber)
    else decide (1 ≤ form.target.toNat ∧ form.target.toNat ≤ 255)) &&
  (match form.range with
    | some (low, high) => decide (low.toNat ≤ high.toNat)
    | none => true) &&
  decide (form.life.toNat ≤ 1000000) &&
  (match form.dest with
    | some d => decide (d.toNat < 64) && decide ((s.client d.toNat).role = .machine)
    | none => true)

/-- ISSUE for a specific tool (R91, R92). -/
def issueByTool (client : Nat) (tag : Word) (form : IssueForm) (s : Hall) : Reply :=
  match s.findTool form.target.toNat with
  | none => refuse .unknownTool s
  | some (slot, r) =>
    match s.tickets.lowestFree Config.tickets with
    | none => refuse .waitFull s
    | some n =>
      match r.status, s.mode with
      | .gauging _, _ => refuse .busy s
      | .ready, .online =>
        let t := issuedTicket client tag form r.cls (some form.target.toNat) s
        answerServed n t (promiseNew n t slot r s)
      | _, .draining => refuse .offline s
      | _, .offline => refuse .offline s
      | _, .online => refuse .state s

/-- ISSUE by class (R91, R93). -/
def issueByClass (client : Nat) (tag : Word) (form : IssueForm) (s : Hall) : Reply :=
  match s.classes.get form.target.toNat with
  | none => refuse .noClass s
  | some _ =>
    match s.tickets.lowestFree Config.tickets with
    | none => refuse .waitFull s
    | some n =>
      let t := issuedTicket client tag form form.target.toNat none s
      answerServed n t (serveByClass n t s)

/-- ISSUE (R91 to R93). -/
def issueTicket (client : Nat) (tag : Word) (form : IssueForm) (s : Hall) : Reply :=
  if !issueInRange form s then refuse .range s
  else if form.byTool then issueByTool client tag form s
  else issueByClass client tag form s

/-- The outcome of a replacement (R171). -/
inductive Replacement where
  | failed
  | queued (n : Nat)
  | promised (n slot : Nat) (r : Record)
  deriving DecidableEq, Repr

/-- The ticket of a replacement: AUTO, STOP, any grade, life needed 1, for machine `client` (R97). -/
def replacementTicket (cls client : Nat) (tag : Word) (s : Hall) : Ticket where
  status := .waiting
  requester := client
  tag := tag
  origin := .auto
  band := .stop
  cls := cls
  lowGrade := 0
  highGrade := topGradeOf cls s
  life := 1
  specific := none
  dest := some client
  notify := true
  age := 0

/-- The replacement service (R97): served as an ISSUE by class, without a notice; nothing when no ticket is FREE. -/
def replace (cls client : Nat) (tag : Word) (s : Hall) : Hall × Replacement :=
  match s.tickets.lowestFree Config.tickets with
  | none => (s, .failed)
  | some n =>
    let v := serveByClass n (replacementTicket cls client tag s) s
    match v.promised with
    | some (slot, r, _) => (v.hall, .promised n slot r)
    | none => (v.hall, .queued n)

/-! ### CANCEL (R98, R99) -/

/-- The CANCELLED notice, when a TOOLROOM client cancels another client's ticket (R99). -/
def cancelledNotice (client n : Nat) (t : Ticket) : List Notice :=
  if client = t.requester then []
  else [noticeTo t.requester .cancelled [natWord n, t.tag, natWord t.status.code, natWord client]]

/-- What CANCEL of a promised ticket answers: the state the ticket had, the tool number, the record's new state READY,
and the ticket that took it (log 11, log 14). -/
def cancelPromisedReply (client n : Nat) (t : Ticket) (tool : Nat) (o : Offered) (hall : Hall) : Reply :=
  ⟨hall, acceptOrPromised o.taken,
    [natWord t.status.code, natWord tool, natWord RecordStatus.ready.code, optWord o.taken],
    cancelledNotice client n t ++ o.notices⟩

/-- The tool number of the record in a slot. -/
def toolIn (slot : Nat) (s : Hall) : Nat := ((s.records.get slot).map fun r => r.tool).getD 0

/-- CANCEL of a ticket that passed its checks (R99). -/
def cancelTicket (client n : Nat) (t : Ticket) (s : Hall) : Reply :=
  match t.status with
  | .waiting =>
    ⟨(leaveWaitQueue n t.cls s).freeTicket n, .ok, [natWord t.status.code, 0, 0, 0], cancelledNotice client n t⟩
  | .promised slot =>
    let left := match channelHolding n s with
      | some c => leaveChannelQueue n c s
      | none => { s with handover := s.handover.filter fun x => x != n }
    let o := returnPromise slot (left.freeTicket n)
    cancelPromisedReply client n t (toolIn slot s) o o.hall
  | .released slot =>
    match channelHolding n s with
    | some c =>
      let o := returnPromise slot ((endCycle n c s).freeTicket n)
      cancelPromisedReply client n t (toolIn slot s) o (moveOn c o.hall)
    | none =>
      let o := returnPromise slot (s.freeTicket n)
      cancelPromisedReply client n t (toolIn slot s) o o.hall
  | .opened _ => refuse .tooLate s

/-- A tag carried by CANCEL or HANDOVER equals the ticket's requester tag (R98, R122). -/
def tagMatches (t : Ticket) : Option Word → Bool
  | none => true
  | some tag => decide (tag = t.tag)

/-- CANCEL: the checks of R98 in their order, then by the ticket's state (R99). -/
def cancelByNumber (client : Nat) (ticket : Word) (tag : Option Word) (s : Hall) : Reply :=
  if Config.tickets ≤ ticket.toNat then refuse .range s
  else
    match s.tickets.get ticket.toNat with
    | none => refuse .noTicket s
    | some t =>
      if !tagMatches t tag then refuse .noTicket s
      else if !(decide (client = t.requester) || decide ((s.client client).role = .toolroom)) then
        refuse .notPermitted s
      else cancelTicket client ticket.toNat t s

/-! ### Lapse (R101) -/

/-- The lapse of a ticket whose drawer was never opened, once the drawer unit has removed it from its queue: the ticket
is freed, NOT-COLLECTED goes to its requester, and the record returns to READY with its offer. -/
def lapse (n : Nat) (t : Ticket) (slot : Nat) (c : Fin 16) (s : Hall) : Hall × List Notice :=
  let o := returnPromise slot (s.freeTicket n)
  (o.hall, noticeTo t.requester .notCollected [natWord n, t.tag, natWord (toolIn slot s), natWord c.val] :: o.notices)

/-! ### RETURN (R102) -/

/-- RETURN of an OUT record: HELD WORN, HELD STALE or READY with its offer, in that order of judgement (R102). The
answer is the state that judgement gives and the ticket that took the tool (log 11, log 14). -/
def returnRecord (slot : Nat) (r : Record) (location : Location) (s : Hall) : Reply :=
  let r := { r with location := location, outAge := 0, overdue := false, dest := none }
  if r.life = 0 then
    accept [natWord (RecordStatus.held .worn).code, 0] (s.putRecord slot { r with status := .held .worn })
  else if !fresh (validityOf r.cls s) r && r.measured.isSome then
    let fall := usableFall r.cls (s.putRecord slot { r with status := .held .stale })
    ⟨fall.1, .ok, [natWord (RecordStatus.held .stale).code, 0], fall.2⟩
  else
    let o := enterReady slot r true s
    ⟨o.hall, acceptOrPromised o.taken, [natWord RecordStatus.ready.code, optWord o.taken], o.notices⟩

/-- RETURN: the checks of R102 in their order. -/
def returnToCrib (tool : Word) (loc : CribLoc) (s : Hall) : Reply :=
  match cribLocation loc with
  | none => refuse .range s
  | some location =>
    match s.lookUpTool tool with
    | .error code => refuse code s
    | .ok (slot, r) =>
      match r.status with
      | .gauging _ => refuse .busy s
      | .out => returnRecord slot r location s
      | .new => refuse .state s
      | .ready => refuse .state s
      | .promised => refuse .state s
      | .mounted => refuse .state s
      | .held _ => refuse .state s

/-! ### The issue mode (R87, R88) -/

/-- A cycle starts on each channel that is IDLE with a non-empty queue (R88, first step). -/
def startCycles (s : Hall) : Hall := (List.finRange 16).foldl (fun s c => startCycle c s) s

/-- Offer slots in order (R88, second step). -/
def offerEach : List Nat → Hall → Hall × List Notice
  | [], s => (s, [])
  | slot :: rest, s =>
    let o := offer slot s
    let others := offerEach rest o.hall
    (others.1, o.notices ++ others.2)

/-- SET-ISSUE-MODE (R87, R88); the answer is the mode reached. -/
def changeMode (on : Bool) (s : Hall) : Reply :=
  if on then
    match s.mode with
    | .online => accept [natWord IssueMode.online.code] s
    | _ =>
      let s := startCycles { s with mode := .online }
      let walked := offerEach (s.chains.flatMap Prod.snd) s
      ⟨walked.1, .ok, [natWord walked.1.mode.code], walked.2⟩
  else
    match s.mode with
    | .online =>
      let s := drainCheck { s with mode := .draining }
      accept [natWord s.mode.code] s
    | other => accept [natWord other.code] s

/-! ### Reading (R89, R90) -/

/-- The number of tickets in a state. -/
def ticketsIn (code : Nat) (s : Hall) : Nat := s.tickets.count fun t => t.status.code == code

/-- One entry of a QUERY-ISSUE response (R89). -/
def queueEntry (tickets : Table Ticket) (n : Nat) : List Word :=
  match tickets.get n with
  | some t => [natWord n, natWord t.band.code, natWord t.age, natWord t.requester, natWord t.origin.code]
  | none => [natWord n, 0, 0, 0, 0]

/-- QUERY-ISSUE (R89); a start position out of range comes before NO-CLASS (DESIGN CHOICE, log 26). -/
def queryPool (cls start : Word) (s : Hall) : Reply :=
  let pool := [natWord s.mode.code, natWord (Config.tickets - s.tickets.length), natWord (ticketsIn 1 s),
    natWord (ticketsIn 2 s), natWord (ticketsIn 3 s), natWord (ticketsIn 4 s), natWord s.handover.length]
  if 255 < cls.toNat ∨ 127 < start.toNat then refuse .range s
  else if cls.toNat = 0 then accept pool s
  else
    match s.classes.get cls.toNat with
    | none => refuse .noClass s
    | some _ =>
      let queue := s.waitQueues.list cls.toNat
      let page := (queue.drop start.toNat).take Config.pageEntries
      accept (pool ++ natWord queue.length :: page.flatMap (queueEntry s.tickets)) s

/-- QUERY-TICKET (R90). -/
def queryTicketImage (ticket : Word) (s : Hall) : Reply :=
  if Config.tickets ≤ ticket.toNat then refuse .range s
  else
    match s.tickets.get ticket.toNat with
    | none => accept (freeTicketImage ticket.toNat) s
    | some t =>
      let slotTool := (t.status.slot.map fun slot => toolIn slot s).getD 0
      accept (ticketImage ticket.toNat t slotTool (collectionOf ticket.toNat t s)) s

/-! ### Ticket ageing at the sweep (R103) -/

/-- The EXPIRED notice (R103). -/
def expiredNotice (n : Nat) (t : Ticket) : Notice :=
  noticeTo t.requester .expired [natWord n, t.tag, natWord t.cls, natWord t.band.code, natWord t.age]

/-- One WAITING ticket at a sweep (R103): its age rises, then it expires at the wait limit, or is promoted from PLAN to
the tail of the STOP tickets at the promotion age. -/
def ageTicket (n : Nat) (s : Hall) : Hall × List Notice :=
  match s.tickets.get n with
  | none => (s, [])
  | some t0 =>
    let t := { t0 with age := ageUp t0.age }
    match s.classes.get t.cls with
    | none => (s.putTicket n t, [])
    | some c =>
      if 0 < c.policy.waitLimit ∧ c.policy.waitLimit ≤ t.age then
        ((leaveWaitQueue n t.cls s).freeTicket n, [expiredNotice n t])
      else if t.band = .plan ∧ 0 < c.policy.promotionAge ∧ c.policy.promotionAge ≤ t.age then
        let t := { t with band := .stop }
        (joinWaitQueue n t ((leaveWaitQueue n t.cls s).putTicket n t), [])
      else (s.putTicket n t, [])

/-- Tickets in the order the queues stood when the sweep began (R103). -/
def ageTickets : List Nat → Hall → Hall × List Notice
  | [], s => (s, [])
  | n :: rest, s =>
    let one := ageTicket n s
    let others := ageTickets rest one.1
    (others.1, one.2 ++ others.2)

/-- The issue unit's part of a sweep: every class's wait queue in ascending class number (R103). -/
def sweepTickets (s : Hall) : Hall × List Notice := ageTickets (s.waitQueues.flatMap Prod.snd) s

end Sys2Proof.Machine
end

