-- ==== Sys2Proof/Machine/Drawers.lean ====
section
/-! DEFINITION. Drawer channels and handover (chapter 6): CONFIGURE-CHANNEL, CLEAR-CHANNEL, HANDOVER, QUERY-CHANNEL,
QUERY-HANDOVER, the drawer-line events and the window expiries. -/

namespace Sys2Proof.Machine

/-- A location in the drawer of a channel, in any bin. -/
def Location.inDrawer (c : Fin 16) : Location → Bool
  | .drawer channel _ => decide (channel = c)
  | _ => false

/-- The record a ticket holds. -/
def ticketRecord (n : Nat) (s : Hall) : Option Record :=
  match (s.tickets.get n).bind fun t => t.status.slot with
  | some slot => s.records.get slot
  | none => none

/-- The handover list holds a ticket whose record lies in this channel's drawer (R109). -/
def handoverInDrawer (c : Fin 16) (s : Hall) : Bool :=
  s.handover.any fun n => ((ticketRecord n s).map fun r => r.location.inDrawer c).getD false

/-- The answer to CONFIGURE-CHANNEL (R109). -/
def channelBody (x : Channel) : List Word :=
  [markWord x.enabled, natWord x.openWindow, natWord x.takeWindow, natWord x.state.code]

/-- CONFIGURE-CHANNEL (R109): the windows clamped to 5 to 255 and the enabled choice checked against the channel as it
stands. Of two grounds to refuse an enabling, DRAWER-OPEN comes before BUSY (DESIGN CHOICE, log 22). -/
def configureDrawer (channel : Word) (enabled : Bool) (openWindow takeWindow : Word) (s : Hall) : Reply :=
  match channelOf channel with
  | none => refuse .range s
  | some c =>
    let old := s.channel c
    let set := { old with
      openWindow := clampNat 5 255 openWindow.toNat
      takeWindow := clampNat 5 255 takeWindow.toNat
      enabled := enabled }
    match old.enabled, enabled with
    | false, true =>
      match old.level with
      | .open => refuse .drawerOpen s
      | .shut =>
        if handoverInDrawer c s then refuse .busy s
        else accept (channelBody { set with state := .idle }) (s.setChannel c { set with state := .idle })
    | true, false =>
      if decide (old.state = .idle) && old.queue.isEmpty then
        accept (channelBody { set with state := .off }) (drainCheck (s.setChannel c { set with state := .off }))
      else refuse .busy s
    | _, _ => accept (channelBody set) (s.setChannel c set)

/-- CLEAR-CHANNEL (R119). -/
def clearDrawer (channel : Word) (s : Hall) : Reply :=
  match channelOf channel with
  | none => refuse .range s
  | some c =>
    match (s.channel c).state, (s.channel c).level with
    | .forced, .open => refuse .drawerOpen s
    | .forced, .shut =>
      let s := startCycle c (s.setChannel c { s.channel c with state := .idle })
      accept [natWord (s.channel c).state.code] s
    | .ajar, _ => refuse .drawerOpen s
    | .off, _ => refuse .state s
    | .idle, _ => refuse .state s
    | .released, _ => refuse .state s
    | .opened, _ => refuse .state s

/-- HANDOVER: the checks of R122 in their order, then the ticket leaves the list and completes (R100). -/
def handOver (ticket : Word) (tag : Option Word) (s : Hall) : Reply :=
  if Config.tickets ≤ ticket.toNat then refuse .range s
  else
    match s.tickets.get ticket.toNat with
    | none => refuse .noTicket s
    | some t =>
      if !tagMatches t tag then refuse .noTicket s
      else if !s.handover.contains ticket.toNat then refuse .state s
      else
        let slot := t.status.slot.getD 0
        let body := [natWord ticket.toNat, natWord (toolIn slot s), natWord slot, optWord t.dest]
        let done := complete ticket.toNat t
          { s with handover := s.handover.filter fun x => x != ticket.toNat }
        ⟨done.1, .ok, body, done.2⟩

/-- The bin of a DRAWER location. -/
def Location.binNumber : Location → Nat
  | .drawer _ bin => bin.val
  | _ => 0

/-- One entry of a QUERY-CHANNEL response (R123). -/
def channelEntry (s : Hall) (n : Nat) : List Word :=
  let t := s.tickets.get n
  let r := ticketRecord n s
  [natWord n, natWord ((t.map fun x => x.status.code).getD 0), natWord ((t.map fun x => x.band.code).getD 0),
    natWord ((r.map fun x => x.tool).getD 0), natWord ((r.map fun x => x.location.binNumber).getD 0)]

/-- QUERY-CHANNEL (R123); the seconds left read 0 when no window runs (log 15). -/
def queryDrawer (channel start : Word) (s : Hall) : Reply :=
  match channelOf channel with
  | none => refuse .range s
  | some c =>
    if 127 < start.toNat then refuse .range s
    else
      let x := s.channel c
      let page := (x.queue.drop start.toNat).take Config.pageEntries
      accept ([natWord x.state.code, natWord x.level.code, markWord x.enabled, natWord x.openWindow,
        natWord x.takeWindow, optWord x.timer, natWord x.queue.length] ++ page.flatMap (channelEntry s)) s

/-- One entry of a QUERY-HANDOVER response (R123). -/
def handoverEntry (s : Hall) (n : Nat) : List Word :=
  let t := s.tickets.get n
  let r := ticketRecord n s
  [natWord n, natWord ((t.map fun x => x.band.code).getD 0), natWord ((t.map fun x => x.requester).getD 0),
    natWord ((r.map fun x => x.tool).getD 0), (r.map fun x => x.location.word).getD 0]

/-- QUERY-HANDOVER (R123). -/
def queryHandoverList (start : Word) (s : Hall) : Reply :=
  if 127 < start.toNat then refuse .range s
  else
    let page := (s.handover.drop start.toNat).take Config.pageEntries
    accept (natWord s.handover.length :: page.flatMap (handoverEntry s)) s

/-! ### Drawer-line events and window expiries (6.4) -/

/-- The CHANNEL-FAULT notice of a forced opening (R117, R206). -/
def forcedNotice (c : Fin 16) (held : Nat) : Notice := ⟨.channelFault, everyToolroom, [2, natWord c.val, natWord held]⟩

/-- A forced opening of an IDLE channel (R117): FORCED, every READY record of the drawer held AUDIT in slot order, the
CHANNEL-FAULT notice and flag; the LOW-STOCK notices follow. -/
def forcedOpening (c : Fin 16) (s : Hall) : Hall × List Notice :=
  let s := s.setChannel c { s.channel c with state := .forced }
  let held := holdEach (fun r => r.location.inDrawer c) .audit s.records.keys s
  (setFlag .channelFault held.1, forcedNotice c held.2.2 :: held.2.1)

/-- The drawer of a RELEASED channel is opened (R112): the head is OPENED, its record's opened mark is set, and the take
window starts. -/
def takeStarts (c : Fin 16) (s : Hall) : Hall :=
  let x := s.channel c
  let s := s.setChannel c { x with state := .opened, timer := some x.takeWindow }
  match x.queue with
  | [] => s
  | n :: _ =>
    match s.tickets.get n with
    | none => s
    | some t =>
      let s := s.putTicket n t.openDrawer
      match t.status.slot with
      | none => s
      | some slot =>
        match s.records.get slot with
        | none => s
        | some r => s.putRecord slot { r with opened := true }

/-- The event opened (R107): a debounced fall of CLOSED. A fall that the filter has already seen is no event. -/
def openedEvent (c : Fin 16) (s : Hall) : Hall × List Notice :=
  match (s.channel c).filter with
  | .open => (s, [])
  | .shut =>
    let s := s.setChannel c { s.channel c with filter := .open, level := .open }
    match (s.channel c).state with
    | .idle => forcedOpening c s
    | .released => (takeStarts c s, [])
    | .off => (s, [])
    | .forced => (s, [])
    | .opened => (s, [])
    | .ajar => (s, [])

/-- The drawer of an OPENED or AJAR channel is shut (R114): the head leaves the queue and completes, and the channel
moves on. -/
def takeEnds (c : Fin 16) (s : Hall) : Hall × List Notice :=
  match (s.channel c).queue with
  | [] => (moveOn c s, [])
  | n :: _ =>
    match s.tickets.get n with
    | none => (moveOn c (endCycle n c s), [])
    | some t =>
      let done := complete n t (endCycle n c s)
      (moveOn c done.1, done.2)

/-- The event closed (R107): a debounced rise of CLOSED. A rise that the filter has already seen is no event. -/
def closedEvent (c : Fin 16) (s : Hall) : Hall × List Notice :=
  match (s.channel c).filter with
  | .shut => (s, [])
  | .open =>
    let s := s.setChannel c { s.channel c with filter := .shut, level := .shut }
    match (s.channel c).state with
    | .opened => takeEnds c s
    | .ajar => takeEnds c s
    | .off => (s, [])
    | .idle => (s, [])
    | .released => (s, [])
    | .forced => (s, [])

/-- The open window of a RELEASED channel runs out (R113): the head leaves the queue and lapses, and the channel moves
on. In any other state no open window runs and there is no expiry (R108). -/
def openExpiry (c : Fin 16) (s : Hall) : Hall × List Notice :=
  match (s.channel c).state with
  | .released =>
    match (s.channel c).queue with
    | [] => (moveOn c s, [])
    | n :: _ =>
      match s.tickets.get n with
      | none => (moveOn c (endCycle n c s), [])
      | some t =>
        match t.status.slot with
        | none => (moveOn c (endCycle n c s), [])
        | some slot =>
          let lapsed := lapse n t slot c (endCycle n c s)
          (moveOn c lapsed.1, lapsed.2)
  | _ => (s, [])

/-- The take window of an OPENED channel runs out (R115): AJAR, with the CHANNEL-FAULT notice and flag. In any other
state no take window runs and there is no expiry (R108). -/
def takeExpiry (c : Fin 16) (s : Hall) : Hall × List Notice :=
  let x := s.channel c
  match x.state with
  | .opened =>
    let n := x.queue.head?.getD 0
    let tool := ((ticketRecord n s).map fun r => r.tool).getD 0
    (setFlag .channelFault (s.setChannel c { x with state := .ajar, timer := none }),
      [⟨.channelFault, everyToolroom, [1, natWord c.val, natWord n, natWord tool]⟩])
  | _ => (s, [])

end Sys2Proof.Machine
end

