-- ==== Sys2Proof/Machine/Stations.lean ====
section
/-! DEFINITION. Presetting stations and calibration (chapter 3): CAL-GEOMETRY, CAL-CORRECTION, CONFIGURE-STATION,
QUERY-STATION, HOLD-BY-CALIBRATION. -/

namespace Sys2Proof.Machine

/-- The geometry half a CAL-GEOMETRY carries. -/
def geometryHalfOf (w : GeometryWords) : GeometryHalf where
  zPitch := w.zPitch.toNat
  xPitch := w.xPitch.toNat
  zZero := signedOf w.zZero
  xZero := signedOf w.xZero
  zRef := w.zRef.toNat
  xRef := w.xRef.toNat

/-- An encoder count lies within −8,388,608 to 8,388,607 (R47, R60). -/
def countInRange (n : Int) : Bool := decide (-8388608 ≤ n ∧ n ≤ 8388607)

/-- Every value of a geometry half lies within its range (R47). -/
def GeometryHalf.inRange (g : GeometryHalf) : Bool :=
  decide (1 ≤ g.zPitch ∧ g.zPitch ≤ 16777215) && decide (1 ≤ g.xPitch ∧ g.xPitch ≤ 16777215) &&
  countInRange g.zZero && countInRange g.xZero &&
  decide (0 ≤ g.zRef ∧ g.zRef ≤ geometryLimit) && decide (0 ≤ g.xRef ∧ g.xRef ≤ geometryLimit)

/-- The correction half a CAL-CORRECTION carries. -/
def correctionHalfOf (w : CorrectionWords) : CorrectionHalf where
  zTrim := w.zTrim
  xTrim := w.xTrim
  thermal := w.thermal.toNat
  driftLimit := w.driftLimit.toNat

/-- Every value of a correction half lies within its range (R48); a trim always does. -/
def CorrectionHalf.inRange (c : CorrectionHalf) : Bool :=
  decide (0 ≤ c.thermal ∧ c.thermal ≤ 5000) && decide (1 ≤ c.driftLimit ∧ c.driftLimit ≤ 1000)

/-- The generation after an activation: from 65,535 it becomes 1 (R52). -/
def nextGeneration (n : Nat) : Nat := if n < 65535 then n + 1 else 1

/-- Activation (R52): the staged set becomes the active set and is consumed, the marks are cleared, the generation
advances, and a station in UNCAL or DRIFT goes to READY. Without both halves staged there is nothing to activate. -/
def Station.activate (st : Station) : Station :=
  match st.stagedGeometry, st.stagedCorrection with
  | some g, some c =>
    { st with
      active := some (g, c)
      stagedGeometry := none
      stagedCorrection := none
      pending := false
      generation := nextGeneration st.generation
      state := match st.state with
        | .uncal => .ready
        | .drift => .ready
        | .ready => .ready
        | .gauging entry => .gauging entry }
  | _, _ => st

/-- After a calibration write (R51): with both halves staged, immediate activation, or the pending mark while GAUGING. -/
def Station.afterWrite (st : Station) : Station :=
  if st.stagedGeometry.isSome && st.stagedCorrection.isSome then
    match st.state with
    | .gauging _ => { st with pending := true }
    | .uncal => st.activate
    | .ready => st.activate
    | .drift => st.activate
  else st

/-- The write activates a set: both halves are staged and the station is not GAUGING (R51). -/
def Station.willActivate (st : Station) : Bool :=
  st.stagedGeometry.isSome && st.stagedCorrection.isSome && !st.state.isGauging

/-- A PRESETTER client calibrates its own station only (R42). -/
def mayCalibrate (e : ClientEntry) (n : Fin 4) : Bool :=
  match e with
  | .presetter own => decide (own = n)
  | _ => true

/-- The answer to a calibration write (R49): the staged marks, the pending mark and the generation after the request,
and whether the request activated the set. One word gives the generation whether or not it is new, and the mark always
stands (DEDUCED, log 29). -/
def calibrationBody (st : Station) (activated : Bool) : List Word :=
  [markWord st.stagedGeometry.isSome, markWord st.stagedCorrection.isSome, markWord st.pending, natWord st.generation,
    markWord activated]

/-- CAL-GEOMETRY (R49): station number, station binding, values, then the staged geometry half and R51. -/
def writeGeometry (client : Nat) (station : Word) (values : GeometryWords) (s : Hall) : Reply :=
  match stationOf station with
  | none => refuse .range s
  | some n =>
    if !mayCalibrate (s.client client) n then refuse .notPermitted s
    else if !(geometryHalfOf values).inRange then refuse .range s
    else
      let st := { s.station n with stagedGeometry := some (geometryHalfOf values) }
      accept (calibrationBody st.afterWrite st.willActivate) (s.setStation n st.afterWrite)

/-- CAL-CORRECTION (R50): as CAL-GEOMETRY, for the correction half. -/
def writeCorrection (client : Nat) (station : Word) (values : CorrectionWords) (s : Hall) : Reply :=
  match stationOf station with
  | none => refuse .range s
  | some n =>
    if !mayCalibrate (s.client client) n then refuse .notPermitted s
    else if !(correctionHalfOf values).inRange then refuse .range s
    else
      let st := { s.station n with stagedCorrection := some (correctionHalfOf values) }
      accept (calibrationBody st.afterWrite st.willActivate) (s.setStation n st.afterWrite)

/-- CONFIGURE-STATION (R46): the gauge window, clamped to 10 to 2550; a running interval keeps its length. -/
def configureGaugeWindow (station window : Word) (s : Hall) : Reply :=
  match stationOf station with
  | none => refuse .range s
  | some n =>
    let w := clampNat 10 2550 window.toNat
    accept [natWord w] (s.setStation n { s.station n with window := w })

/-- The tool number of a session: its record's, 0 for the master (R56). -/
def sessionTool (s : Hall) (kind : SessionKind) : Nat :=
  match kind with
  | .master => 0
  | .tool slot => ((s.records.get slot).map fun r => r.tool).getD 0

/-- QUERY-STATION (R56). -/
def queryStationImage (station : Word) (s : Hall) : Reply :=
  match stationOf station with
  | none => refuse .range s
  | some n =>
    let st := s.station n
    accept (stationImage st (boundClient n s) ((st.session.map fun x => sessionTool s x.kind).getD 0)) s

/-- The record's measurement names this station and generation (R54). -/
def measuredAt (n : Fin 4) (generation : Nat) (r : Record) : Bool :=
  match r.measured with
  | none => false
  | some m => decide (m.2.station = n) && m.2.generation == generation

/-- HOLD-BY-CALIBRATION (R55): every READY record measured at the station under the generation is held SUSPECT, in slot
order. -/
def holdCalibration (station generation : Word) (s : Hall) : Reply :=
  match stationOf station with
  | none => refuse .range s
  | some n =>
    if ¬(1 ≤ generation.toNat ∧ generation.toNat ≤ 65535) then refuse .range s
    else
      let held := holdEach (measuredAt n generation.toNat) .suspect s.records.keys s
      ⟨held.1, .ok, [station, generation, natWord held.2.2], held.2.1⟩

end Sys2Proof.Machine
end

