-- ==== Sys2Proof/Machine/Gauging.lean ====
section
/-! DEFINITION. Gauging sessions and the measurement reduction (chapter 4): GAUGE-BEGIN, GAUGE-POINT, GAUGE-END,
GAUGE-ABORT and the gauge window expiry. -/

namespace Sys2Proof.Machine

/-! ### The reduction (4.5) -/

/-- A trim as a whole number from −15 to +15 (R48). -/
def trimValue (t : Trim) : Int := if t.minus then -(t.magnitude.toNat : Int) else t.magnitude.toNat

/-- Stage 1, count conversion (R69). -/
def convert (count zero pitch : Int) : Int := roundDiv ((count - zero) * pitch) 65536

/-- Stage 2, placement and trim, before the limit (R70). -/
def placed (ref conv : Int) (trim : Trim) : Int := ref + conv + trimValue trim

/-- A position limited to the geometry range (R70). -/
def limited (n : Int) : Int := clampInt (-geometryLimit) geometryLimit n

/-- Stage 3, the thermal correction to take off a placed Z position (R71). -/
def compensation (p thermal temperature : Int) : Int := roundDiv (p * thermal * (temperature - 2000)) 10000000000

/-- A point after stages 1 to 3: the corrected length position, the X placed position, and whether it left the range. -/
structure Reduced where
  zc : Int
  xp : Int
  saturated : Bool
  deriving DecidableEq, Repr

/-- Stages 1 to 3 of one point with the active set (R69 to R71). -/
def reducePoint (g : GeometryHalf) (c : CorrectionHalf) (temperature : Int) (p : Point) : Reduced :=
  let z := placed g.zRef (convert p.z g.zZero g.zPitch) c.zTrim
  let x := placed g.xRef (convert p.x g.xZero g.xPitch) c.xTrim
  let zc := limited z - compensation (limited z) c.thermal temperature
  ⟨limited zc, limited x, !inGeometryRange z || !inGeometryRange x || !inGeometryRange zc⟩

/-- The outcome of stage 4: length, radius, runout and the session's saturated mark. -/
structure Gathered where
  length : Int
  radius : Int
  runout : Int
  saturated : Bool
  deriving DecidableEq, Repr

/-- Stage 4, reduction over the points (R72). -/
def gather (first : Reduced) (rest : List Reduced) : Gathered :=
  let top := largest first.xp (rest.map Reduced.xp)
  let spread := top - smallest first.xp (rest.map Reduced.xp)
  { length := largest first.zc (rest.map Reduced.zc)
    radius := top
    runout := limited spread
    saturated := (first :: rest).any Reduced.saturated || !inGeometryRange spread }

/-- The unlimited grade index (R26, R73). -/
def gradeIndex (sh : Shape) (length : Int) : Int := (length - sh.nominalLength - sh.gradeBase).fdiv sh.gradeStep

/-- Stage 5, classification (R73): the first check that fails, or none for ACCEPT. -/
def classify (sh : Shape) (m : Gathered) : Option RejectCause :=
  if m.saturated then some .range
  else if ¬(0 ≤ gradeIndex sh m.length ∧ gradeIndex sh m.length ≤ sh.topGrade) then some .length
  else if ¬(sh.bandLow ≤ m.radius - sh.nominalRadius ∧ m.radius - sh.nominalRadius ≤ sh.bandHigh) then some .radius
  else if sh.runoutLimit < m.runout then some .runout
  else none

/-- The grade written to the record: the index limited to 0 to 15 (R73). -/
def writtenGrade (g : Int) : Nat := (clampInt 0 15 g).toNat

/-! ### Sessions -/

/-- The station of the sender's client table entry (R42). -/
def senderStation (client : Nat) (s : Hall) : Option (Fin 4) := (s.client client).station

/-- The session's end at the station (R45, steps 2 and 3): its new state, the context discarded, and a pending
activation run. -/
def Station.close (st : Station) (state : StationState) : Station :=
  let st := { st with state := state, session := none }
  if st.pending then st.activate else st

/-- The new generation a response or notice carries when an activation ran, else 0. -/
def newGeneration (before after : Station) : Nat := if before.pending then after.generation else 0

/-- A session opens on a station (R63, R64): the context with an empty point list, and the window timer started. -/
def Station.openSession (st : Station) (entry : EntryState) (kind : SessionKind) : Station :=
  { st with state := .gauging entry, session := some ⟨kind, [], st.window⟩ }

/-- The resume state GAUGE-BEGIN saves; PROMISED, OUT, MOUNTED and HELD WORN records are refused with STATE, a GAUGING
one with BUSY (R62). -/
def resumeOf : RecordStatus → Except Code Resume
  | .new => .ok .new
  | .ready => .ok .ready
  | .held .worn => .error .state
  | .held reason => .ok (.held reason)
  | .gauging _ => .error .busy
  | .promised => .error .state
  | .out => .error .state
  | .mounted => .error .state

/-- GAUGE-BEGIN for the master (R64). -/
def beginMaster (n : Fin 4) (entry : EntryState) (s : Hall) : Reply :=
  let st := s.station n
  accept [0, natWord st.generation, natWord st.window] (s.setStation n (st.openSession entry .master))

/-- GAUGE-BEGIN for a tool (R62 checks 2 to 5, R63). -/
def beginTool (n : Fin 4) (entry : EntryState) (tool : Word) (s : Hall) : Reply :=
  match s.lookUpTool tool with
  | .error code => refuse code s
  | .ok (slot, r) =>
    match resumeOf r.status with
    | .error code => refuse code s
    | .ok resume =>
      let st := s.station n
      let body := [natWord slot, natWord r.status.code, natWord r.status.holdCode, natWord st.generation,
        natWord st.window]
      let left : Hall × List Notice := match resume with
        | .ready => usableFall r.cls (leaveChain slot r.cls s)
        | _ => (s, [])
      ⟨(left.1.putRecord slot { r with status := .gauging resume }).setStation n (st.openSession entry (.tool slot)),
        .ok, body, left.2⟩

/-- GAUGE-BEGIN: the station state first (R44, R62), then the tool or master session. -/
def beginSession (client : Nat) (tool : Word) (s : Hall) : Reply :=
  match senderStation client s with
  | none => refuse .notPermitted s
  | some n =>
    match (s.station n).state with
    | .uncal => refuse .stationNotReady s
    | .gauging _ => refuse .busy s
    | .drift => if tool = 0 then beginMaster n .drift s else refuse .stationNotReady s
    | .ready => if tool = 0 then beginMaster n .ready s else beginTool n .ready tool s

/-- GAUGE-POINT (R65): the point is appended and the window timer restarts with the stored window. -/
def takePoint (client : Nat) (z x : Word) (s : Hall) : Reply :=
  match senderStation client s with
  | none => refuse .notPermitted s
  | some n =>
    let st := s.station n
    match st.session with
    | none => refuse .noSession s
    | some session =>
      if !countInRange (signedOf z) || !countInRange (signedOf x) then refuse .range s
      else if Config.maxPoints ≤ session.points.length then
        refuseWith .pointsFull [natWord session.points.length, natWord st.window] s
      else
        let points := session.points ++ [⟨signedOf z, signedOf x⟩]
        accept [natWord points.length, natWord st.window]
          (s.setStation n { st with session := some { session with points := points, timer := st.window } })

/-- The first word of the GAUGE-END response (R204). -/
def endWord (verdict : Nat) (cause : Option RejectCause) (saturated ran : Bool) (points : Nat) : Word :=
  packWord [packField 0 3 verdict, packField 4 3 (rejectCode cause), packMark 8 saturated, packMark 9 ran,
    packField 16 5 points]

/-- The eight words of the GAUGE-END response (R204, R76, R77). -/
def endBody (verdict : Nat) (cause : Option RejectCause) (saturated : Bool) (points : Nat) (length radius third grade
    temperature : Int) (before after : Station) (taken : Option Nat) : List Word :=
  [endWord verdict cause saturated before.pending points, intWord length, intWord radius, intWord third, intWord grade,
    intWord temperature,
    packWord [packField 0 16 before.generation, packField 16 16 (newGeneration before after)],
    packWord [packMark 31 taken.isSome, packField 0 7 (taken.getD 0)]]

/-- The result of a tool session on its record (R74, R75): what the record takes, and READY with its offer or HELD
REJECTED with the reject counter raised. -/
def applyResult (slot : Nat) (r : Record) (geometry : Geometry) (m : Measurement) (cause : Option RejectCause)
    (s : Hall) : Offered :=
  let r := { r with measured := some (geometry, m), rejectCause := cause }
  match cause with
  | none => enterReady slot r false s
  | some _ => ⟨countReject r.cls (s.putRecord slot { r with status := .held .rejected }), [], none⟩

/-- GAUGE-END of a tool session (R66, R73 to R76). -/
def endTool (n : Fin 4) (slot : Nat) (points : Nat) (m : Gathered) (temperature : Int) (s : Hall) : Reply :=
  let st := s.station n
  match s.records.get slot with
  | none => refuse .noSession s
  | some r =>
    match s.classes.get r.cls with
    | none => refuse .noSession s
    | some c =>
      let g := gradeIndex c.shape m.length
      let cause := classify c.shape m
      let o := applyResult slot r ⟨m.length, m.radius, m.runout, writtenGrade g⟩ ⟨n, st.generation, temperature, 0⟩
        cause s
      let after := (o.hall.station n).close .ready
      ⟨o.hall.setStation n after, acceptOrPromised o.taken,
        endBody (if cause.isNone then 1 else 2) cause m.saturated points m.length m.radius m.runout g temperature st
          after o.taken,
        o.notices⟩

/-- A DRIFT notice (R77). -/
def driftBody (n : Fin 4) (devZ devX limit : Int) (generation : Nat) (saturated : Bool) : List Word :=
  [natWord n.val, intWord devZ, intWord devX, intWord limit, natWord generation, markWord saturated]

/-- GAUGE-END of a master session (R77). -/
def endMaster (n : Fin 4) (points : Nat) (m : Gathered) (g : GeometryHalf) (c : CorrectionHalf) (temperature : Int)
    (s : Hall) : Reply :=
  let st := s.station n
  let devZ := m.length - g.zRef
  let devX := m.radius - g.xRef
  let pass := !m.saturated && decide (devZ.natAbs ≤ c.driftLimit) && decide (devX.natAbs ≤ c.driftLimit)
  let body := driftBody n devZ devX c.driftLimit st.generation m.saturated
  let toBound := (boundClient n s).toList.map fun client => noticeTo client .drift body
  let after := st.close (if pass then .ready else .drift)
  ⟨(if pass then s else setFlag .drift s).setStation n after, .ok,
    endBody (if pass then 3 else 4) none m.saturated points devZ devX c.driftLimit 0 temperature st after none,
    if pass then [] else ⟨.drift, everyToolroom, body⟩ :: toBound⟩

/-- GAUGE-END (R66): the temperature clamped, the points reduced with the active set, the result by the session's kind. -/
def endSession (client : Nat) (temperature : Word) (s : Hall) : Reply :=
  match senderStation client s with
  | none => refuse .notPermitted s
  | some n =>
    match (s.station n).session with
    | none => refuse .noSession s
    | some session =>
      let t := clampInt (-1000) 6000 (signedOf temperature)
      match session.points, (s.station n).active with
      | [], _ => refuse .noPoints s
      | _ :: _, none => refuse .stationNotReady s
      | p :: rest, some (g, c) =>
        let m := gather (reducePoint g c t p) (rest.map (reducePoint g c t))
        match session.kind with
        | .tool slot => endTool n slot session.points.length m t s
        | .master => endMaster n session.points.length m g c t s

/-- What the end of a session without a result came to (R67). -/
structure Aborted where
  offered : Offered
  /-- The state code the record returned to, 0 for the master. -/
  state : Nat
  before : Station
  after : Station

/-- A session ends without a result (R67): the record returns to its resume state, the station to its entry state, and a
pending activation runs. -/
def abortSession (n : Fin 4) (session : Session) (s : Hall) : Aborted :=
  let st := s.station n
  let entry := match st.state with
    | .gauging entry => entry.state
    | other => other
  let o : Offered × Nat := match session.kind with
    | .master => (⟨s, [], none⟩, 0)
    | .tool slot =>
      match s.records.get slot with
      | none => (⟨s, [], none⟩, 0)
      | some r =>
        match r.status with
        | .gauging resume => (resumeRecord slot r resume s, resume.status.code)
        | _ => (⟨s, [], none⟩, 0)
  let after := st.close entry
  ⟨{ o.1 with hall := o.1.hall.setStation n after }, o.2, st, after⟩

/-- GAUGE-ABORT (R67): the kind, the tool number, the points discarded, the state the record returned to, the ticket
that took it, the new generation and whether an activation ran (log 14). -/
def abortByRequest (client : Nat) (s : Hall) : Reply :=
  match senderStation client s with
  | none => refuse .notPermitted s
  | some n =>
    match (s.station n).session with
    | none => refuse .noSession s
    | some session =>
      let a := abortSession n session s
      ⟨a.offered.hall, acceptOrPromised a.offered.taken,
        [natWord session.kind.code, natWord (sessionTool s session.kind), natWord session.points.length,
          natWord a.state, optWord a.offered.taken, natWord (newGeneration a.before a.after),
          markWord a.before.pending],
        a.offered.notices⟩

/-- The gauge window expiry at a station (R68): as GAUGE-ABORT, with a GAUGE-TIMEOUT notice to the bound client placed
before the notices of the record's offer. Without a session it has no effect (R57). -/
def gaugeExpiry (n : Fin 4) (s : Hall) : Hall × List Notice :=
  match (s.station n).session with
  | none => (s, [])
  | some session =>
    let a := abortSession n session s
    let body := [natWord n.val, natWord session.kind.code, natWord (sessionTool s session.kind),
      natWord session.points.length, natWord a.state, natWord (newGeneration a.before a.after)]
    let timeout := (boundClient n s).toList.map fun client => noticeTo client .gaugeTimeout body
    (a.offered.hall, timeout ++ a.offered.notices)

end Sys2Proof.Machine
end

