-- ==== Sys2Proof/Machine/Life.lean ====
section
/-! DEFINITION. Tool life and the sweep (chapter 9): USAGE, SET-SWEEP and the sweep event. -/

namespace Sys2Proof.Machine

/-- The severity of a machine client's entry (R166). -/
def ClientEntry.severity : ClientEntry → Nat
  | .machine _ _ severity _ => severity
  | _ => 0

/-- The charge of one USAGE (R166). -/
def consumedBy (amount severity : Nat) : Nat := ceilDiv (amount * severity) 64

/-- The LIFE-WARN notice (R174). -/
def lifeWarnNotice (client pocket slot : Nat) (r : Record) (warnLevel : Nat) (tag : Word) : Notice :=
  noticeTo client .lifeWarn
    [natWord pocket, natWord r.tool, natWord slot, natWord r.cls, natWord r.life, natWord warnLevel, tag]

/-- The replacement outcome of a LIFE-END notice with the fields it names (R171, R174, R206); none is NONE. The fields an
outcome does not name are left out (DEDUCED, log 25). -/
def outcomeWords : Option Replacement → List Word
  | none => [0]
  | some (.promised n slot r) =>
    [1, natWord n, natWord r.tool, natWord slot, r.location.word, natWord r.grade, natWord r.life]
  | some (.queued n) => [2, natWord n]
  | some .failed => [3]

/-- The LIFE-END notice (R174); the length of its body is that of its outcome (log 25). -/
def lifeEndNotice (client pocket slot : Nat) (r : Record) (tag : Word) (outcome : Option Replacement) : Notice :=
  noticeTo client .lifeEnd
    ([natWord pocket, natWord r.tool, natWord slot, natWord r.cls, tag] ++ outcomeWords outcome)

/-- The body of the answer to USAGE (R173), from the record as the charge leaves it. -/
def usageBody (pocket slot : Nat) (r : Record) (consumed : Nat) : List Word :=
  [natWord pocket, natWord r.tool, natWord slot, natWord consumed, natWord r.life, markWord r.warned, markWord r.ended]

/-- The replacement of step 3 of R170, when the class's auto-replace choice is yes. -/
def replaceIf (auto : Bool) (cls client : Nat) (tag : Word) (s : Hall) : Hall × Option Replacement :=
  if auto then
    let v := replace cls client tag s
    match v.2 with
    | .failed => (setFlag .replaceFailed v.1, some .failed)
    | other => (v.1, some other)
  else (s, none)

/-- The charge that brings the life to 0 (R170): both marks, the fall of the usable count, the replacement, LIFE-END;
LIFE-END is placed before LOW-STOCK (R173). -/
def endLife (client : Nat) (tag : Word) (pocket slot : Nat) (r : Record) (consumed : Nat) (s : Hall) : Reply :=
  let ended := { r with life := 0, warned := true, ended := true }
  let fall := usableFall r.cls (s.putRecord slot ended)
  let auto := ((s.classes.get r.cls).map fun c => c.policy.autoReplace).getD false
  let v := replaceIf auto r.cls client tag fall.1
  ⟨v.1, .ok, usageBody pocket slot ended consumed, lifeEndNotice client pocket slot ended tag v.2 :: fall.2⟩

/-- The charge that leaves life above 0 (R168, R169). -/
def chargeLife (client : Nat) (tag : Word) (pocket slot : Nat) (r : Record) (consumed : Nat) (s : Hall) : Reply :=
  let charged := { r with life := r.life - consumed }
  let warnLevel := ((s.classes.get r.cls).map fun c => c.policy.warnLevel).getD 0
  if 0 < warnLevel ∧ charged.life ≤ warnLevel ∧ r.warned = false then
    let warned := { charged with warned := true }
    ⟨s.putRecord slot warned, .ok, usageBody pocket slot warned consumed,
      [lifeWarnNotice client pocket slot warned warnLevel tag]⟩
  else accept (usageBody pocket slot charged consumed) (s.putRecord slot charged)

/-- USAGE charged to the record of a binding (R168 to R172). -/
def chargeRecord (client : Nat) (tag : Word) (pocket slot : Nat) (r : Record) (consumed : Nat) (s : Hall) : Reply :=
  if r.life = 0 then accept (usageBody pocket slot r consumed) s
  else if r.life ≤ consumed then endLife client tag pocket slot r consumed s
  else chargeLife client tag pocket slot r consumed s

/-- USAGE: the checks of R167 in their order. -/
def reportUsage (client : Nat) (tag : Word) (pocket amount : Word) (s : Hall) : Reply :=
  if ¬(1 ≤ pocket.toNat ∧ pocket.toNat ≤ 240) then refuse .range s
  else if 65535 < amount.toNat then refuse .range s
  else
    match findBinding client pocket.toNat s.bindings with
    | none => refuse .noBinding s
    | some (_, b) =>
      match s.records.get b.slot with
      | none => refuse .noBinding s
      | some r =>
        chargeRecord client tag pocket.toNat b.slot r (consumedBy amount.toNat (s.client client).severity) s

/-- SET-SWEEP (R176): the stored period, clamped to 10 to 3600; the running interval keeps its length. -/
def storePeriod (period : Option Word) (s : Hall) : Reply :=
  let stored := match period with
    | none => s.sweep.period
    | some p => clampNat 10 3600 p.toNat
  accept [natWord stored, natWord s.sweep.length, natWord (s.sweep.length - s.sweep.count)]
    { s with sweep := { s.sweep with period := stored } }

/-! ### The sweep (R177 to R181) -/

/-- The measurement age rises by 1, when there is geometry (R178). -/
def Record.ageMeasurement (r : Record) : Record :=
  match r.measured with
  | none => r
  | some (g, m) => { r with measured := some (g, { m with age := ageUp m.age }) }

/-- The OVERDUE notice (R180). -/
def overdueNotice (slot : Nat) (r : Record) (limit : Nat) : Notice :=
  ⟨.overdue, everyToolroom,
    [natWord r.tool, natWord slot, natWord r.cls, optWord r.dest, natWord r.outAge, natWord limit]⟩

/-- The out age of an OUT record at a sweep, and its overdue mark (R180). -/
def ageOut (slot : Nat) (r : Record) (s : Hall) : Hall × List Notice :=
  let aged := { r with outAge := ageUp r.outAge }
  let limit := ((s.classes.get r.cls).map fun c => c.policy.outLimit).getD 0
  if 0 < limit ∧ limit ≤ aged.outAge ∧ r.overdue = false then
    let late := { aged with overdue := true }
    (setFlag .overdue (s.putRecord slot late), [overdueNotice slot late limit])
  else (s.putRecord slot aged, [])

/-- One record at a sweep: its measurement ages, a stale READY record is held STALE, an OUT record's out age counts
(R178 to R180). -/
def ageRecord (slot : Nat) (s : Hall) : Hall × List Notice :=
  match s.records.get slot with
  | none => (s, [])
  | some r0 =>
    let r := r0.ageMeasurement
    match r.status with
    | .ready =>
      if r.measured.isSome && !fresh (validityOf r.cls s) r then holdReady slot r .stale s
      else (s.putRecord slot r, [])
    | .out => ageOut slot r s
    | _ => (s.putRecord slot r, [])

/-- The records in slot order (R178). -/
def ageRecords : List Nat → Hall → Hall × List Notice
  | [], s => (s, [])
  | slot :: rest, s =>
    let one := ageRecord slot s
    let others := ageRecords rest one.1
    (others.1, one.2 ++ others.2)

/-- A new interval begins with its length taken from the stored period (R175). -/
def newInterval (s : Hall) : Hall := { s with sweep := ⟨s.sweep.period, s.sweep.period, 0⟩ }

/-- The sweep event (R175, R177): a new interval, the life unit's part, then the issue unit's part. -/
def sweepEvent (s : Hall) : Hall × List Notice :=
  let life := ageRecords s.records.keys (newInterval s)
  let issue := sweepTickets life.1
  (issue.1, life.2 ++ issue.2)

end Sys2Proof.Machine
end

