-- ==== Sys2Proof/Machine/Pockets.lean ====
section
/-! DEFINITION. Machine pockets and data handoff (chapter 7): MOUNT, DISMOUNT, PROTECT, UNPROTECT, ADJUST,
RESEND-HANDOFF, QUERY-POCKET. -/

namespace Sys2Proof.Machine

/-- Why a render gave no block: the machine's program entry is empty, or a LOAD failed its significance check. -/
inductive RenderFailure where
  | noProgram
  | significance (report : Significance)
  deriving DecidableEq, Repr

/-- A render with a machine client's program and gauge-line offset as they stand (R130, R137, R139, R141). -/
def renderFor (e : ClientEntry) (r : Record) (pocket : Nat) (s : Hall) : Except RenderFailure (List Byte) :=
  match e with
  | .machine program _ _ offset =>
    match s.programs.get program.val with
    | none => .error .noProgram
    | some stored =>
      match render stored.steps (renderInput r offset pocket) with
      | .error report => .error (.significance report)
      | .ok block => .ok block
  | _ => .error .noProgram

/-- The refusal a failed render gives (R129, R137, R139). -/
def refuseRender (e : RenderFailure) (s : Hall) : Reply :=
  match e with
  | .noProgram => refuse .noProgram s
  | .significance report => refuseWith .significance report.body s

/-- A pocket number within 1 to 240 (R128). -/
def pocketInRange (w : Word) : Bool := decide (1 ≤ w.toNat ∧ w.toNat ≤ 240)

/-- The pocket count of a machine client's entry. -/
def ClientEntry.pocketCount : ClientEntry → Nat
  | .machine _ pockets _ _ => pockets
  | _ => 0

/-- MOUNT of an OUT record that passed checks 1 to 4 (R129 checks 5 to 9, R130, R131). -/
def mountRecord (client slot : Nat) (r : Record) (pocket : Nat) (s : Hall) : Reply :=
  if !(r.dest.isNone || decide (r.dest = some client)) then refuse .wrongMachine s
  else if (findBinding client pocket s.bindings).isSome then refuse .pocketTaken s
  else
    match s.bindings.lowestFree Config.bindingEntries with
    | none => refuse .bindingsFull s
    | some entry =>
      match renderFor (s.client client) r pocket s with
      | .error e => refuseRender e s
      | .ok block =>
        let mounted := { r with
          status := .mounted
          location := .pocket client pocket
          outAge := 0
          overdue := false
          dest := none }
        accept ([natWord entry, natWord r.tool, natWord slot, natWord r.life, natWord r.grade] ++ blockWords block)
          { s.putRecord slot mounted with bindings := s.bindings.put entry ⟨client, pocket, slot, false⟩ }

/-- MOUNT (R129 to R131). -/
def mountTool (client : Nat) (tool pocket : Word) (s : Hall) : Reply :=
  if ¬(1 ≤ pocket.toNat ∧ pocket.toNat ≤ (s.client client).pocketCount) then refuse .range s
  else
    match s.lookUpTool tool with
    | .error code => refuse code s
    | .ok (slot, r) =>
      match r.status with
      | .gauging _ => refuse .busy s
      | .out => mountRecord client slot r pocket.toNat s
      | .new => refuse .state s
      | .ready => refuse .state s
      | .promised => refuse .state s
      | .mounted => refuse .state s
      | .held _ => refuse .state s

/-- DISMOUNT (R132). -/
def dismountPocket (client : Nat) (pocket : Word) (s : Hall) : Reply :=
  if !pocketInRange pocket then refuse .range s
  else
    match findBinding client pocket.toNat s.bindings with
    | none => refuse .noBinding s
    | some (entry, b) =>
      if b.isProtected then refuse .isProtected s
      else
        match s.records.get b.slot with
        | none => refuse .noBinding s
        | some r =>
          accept [natWord r.tool, natWord b.slot, natWord r.life, markWord r.ended]
            { s.putRecord b.slot { r with status := .out, location := .none } with bindings := s.bindings.del entry }

/-- PROTECT and UNPROTECT set the mark of the binding (R133); the answer is the tool number and the mark. -/
def setProtection (client : Nat) (pocket : Word) (mark : Bool) (s : Hall) : Reply :=
  if !pocketInRange pocket then refuse .range s
  else
    match findBinding client pocket.toNat s.bindings with
    | none => refuse .noBinding s
    | some (entry, b) =>
      accept [natWord (toolIn b.slot s), markWord mark]
        { s with bindings := s.bindings.put entry { b with isProtected := mark } }

/-- The HANDOFF notice (R138): cause 1 ADJUST or 2 RESEND, pocket, tool number, slot, block. -/
def handoffNotice (client cause pocket tool slot : Nat) (block : List Byte) : Notice :=
  noticeTo client .handoff ([natWord cause, natWord pocket, natWord tool, natWord slot] ++ blockWords block)

/-- The adjusted geometry judged as a measurement (R135): a length or radius outside ±9,999,999 counts as saturated. -/
def adjustedGathered (g : Geometry) (dl dr : Int) : Gathered where
  length := g.length + dl
  radius := g.radius + dr
  runout := g.runout
  saturated := !inGeometryRange (g.length + dl) || !inGeometryRange (g.radius + dr)

/-- The adjusted geometry with its new grade (R135). -/
def adjustedGeometry (sh : Shape) (g : Geometry) (dl dr : Int) : Geometry where
  length := g.length + dl
  radius := g.radius + dr
  runout := g.runout
  grade := writtenGrade (gradeIndex sh (g.length + dl))

/-- The body of an OK answer to ADJUST (R136). -/
def adjustBody (r : Record) (before after : Geometry) : List Word :=
  [natWord r.tool, natWord r.status.code, intWord before.length, intWord after.length, intWord before.radius,
    intWord after.radius, natWord before.grade, natWord after.grade]

/-- ADJUST of a READY, PROMISED or OUT record whose adjusted geometry passed (R136): the offer is for a READY record
whose grade changed, and its promise answers PROMISED with the ticket. -/
def adjustInCrib (slot : Nat) (r : Record) (before after : Geometry) (m : Measurement) (s : Hall) : Reply :=
  let s := s.putRecord slot { r with measured := some (after, m) }
  if decide (r.status = .ready) && decide (before.grade ≠ after.grade) then
    let o := offer slot s
    match o.taken with
    | some n => ⟨o.hall, .promised, [natWord n], o.notices⟩
    | none => ⟨o.hall, .ok, adjustBody r before after, o.notices⟩
  else accept (adjustBody r before after) s

/-- ADJUST of a MOUNTED record whose adjusted geometry passed (R137): the render comes before any state changes, and the
block goes to the machine by HANDOFF. -/
def adjustMounted (slot : Nat) (r : Record) (b : Binding) (before after : Geometry) (m : Measurement) (s : Hall) :
    Reply :=
  let adjusted := { r with measured := some (after, m) }
  match renderFor (s.client b.client) adjusted b.pocket s with
  | .error e => refuseRender e s
  | .ok block =>
    ⟨s.putRecord slot adjusted, .ok, adjustBody r before after ++ [natWord b.client, natWord b.pocket],
      [handoffNotice b.client 1 b.pocket r.tool slot block]⟩

/-- A delta of ADJUST lies within ±100,000 (R134). -/
def deltaInRange (w : Word) : Bool := decide (-100000 ≤ signedOf w ∧ signedOf w ≤ 100000)

/-- ADJUST of a record in a state that allows it (R135 to R137): the binding's protected mark first when MOUNTED, then
the classification, refused with BAND. -/
def adjustRecord (slot : Nat) (r : Record) (dl dr : Int) (s : Hall) : Reply :=
  match r.measured, s.classes.get r.cls with
  | some (g, m), some c =>
    let gathered := adjustedGathered g dl dr
    let after := adjustedGeometry c.shape g dl dr
    let band (cause : RejectCause) :=
      refuseWith .band [natWord cause.code, intWord (gradeIndex c.shape gathered.length)] s
    match r.status with
    | .mounted =>
      match bindingOfSlot slot s.bindings with
      | none => refuse .noBinding s
      | some (_, b) =>
        if b.isProtected then refuse .isProtected s
        else
          match classify c.shape gathered with
          | some cause => band cause
          | none => adjustMounted slot r b g after m s
    | _ =>
      match classify c.shape gathered with
      | some cause => band cause
      | none => adjustInCrib slot r g after m s
  | _, _ => refuse .state s

/-- ADJUST (R134). -/
def adjustTool (tool lengthDelta radiusDelta : Word) (s : Hall) : Reply :=
  if !deltaInRange lengthDelta || !deltaInRange radiusDelta then refuse .range s
  else
    match s.lookUpTool tool with
    | .error code => refuse code s
    | .ok (slot, r) =>
      match r.status with
      | .gauging _ => refuse .busy s
      | .new => refuse .state s
      | .held _ => refuse .state s
      | .ready => adjustRecord slot r (signedOf lengthDelta) (signedOf radiusDelta) s
      | .promised => adjustRecord slot r (signedOf lengthDelta) (signedOf radiusDelta) s
      | .out => adjustRecord slot r (signedOf lengthDelta) (signedOf radiusDelta) s
      | .mounted => adjustRecord slot r (signedOf lengthDelta) (signedOf radiusDelta) s

/-- The binding RESEND-HANDOFF names, rendered again (R139 checks 4 and 5). -/
def resendBlock (machine : Nat) (b : Binding) (r : Record) (s : Hall) : Except RenderFailure (List Byte) :=
  renderFor (s.client machine) r b.pocket s

/-- RESEND-HANDOFF from the machine itself (R139): the block in the response, with the tool number and slot. -/
def resendToSender (client : Nat) (pocket : Word) (s : Hall) : Reply :=
  if !pocketInRange pocket then refuse .range s
  else
    match findBinding client pocket.toNat s.bindings with
    | none => refuse .noBinding s
    | some (_, b) =>
      match s.records.get b.slot with
      | none => refuse .noBinding s
      | some r =>
        match resendBlock client b r s with
        | .error e => refuseRender e s
        | .ok block => accept (blockWords block ++ [natWord r.tool, natWord b.slot]) s

/-- RESEND-HANDOFF from the tool room (R139): the tool number, the slot and the block's length in the response, and the
block in a HANDOFF notice to the machine. -/
def resendByToolroom (machine pocket : Word) (s : Hall) : Reply :=
  if 63 < machine.toNat ∨ !pocketInRange pocket then refuse .range s
  else
    match findBinding machine.toNat pocket.toNat s.bindings with
    | none => refuse .noBinding s
    | some (_, b) =>
      if b.isProtected then refuse .isProtected s
      else
        match s.records.get b.slot with
        | none => refuse .noBinding s
        | some r =>
          match resendBlock machine.toNat b r s with
          | .error e => refuseRender e s
          | .ok block =>
            ⟨s, .ok, [natWord r.tool, natWord b.slot, natWord block.length],
              [handoffNotice machine.toNat 2 b.pocket r.tool b.slot block]⟩

/-- RESEND-HANDOFF (R139), by the form the sender's role takes (R204). -/
def resendHandoffBlock (client : Nat) (machine : Option Word) (pocket : Word) (s : Hall) : Reply :=
  match machine with
  | none => resendToSender client pocket s
  | some m => resendByToolroom m pocket s

/-- Insert a binding in ascending pocket order. -/
def insertByPocket (e : Nat × Binding) : List (Nat × Binding) → List (Nat × Binding)
  | [] => [e]
  | x :: xs => if e.2.pocket < x.2.pocket then e :: x :: xs else x :: insertByPocket e xs

/-- The bindings of a machine client in ascending pocket order (R140). -/
def bindingsOf (client : Nat) (s : Hall) : List (Nat × Binding) :=
  (s.bindings.filter fun e => e.2.client == client).foldr insertByPocket []

/-- One entry of a QUERY-POCKET response (R140). -/
def pocketEntry (s : Hall) (e : Nat × Binding) : List Word :=
  let r := s.records.get e.2.slot
  [natWord e.2.pocket, natWord e.1, natWord ((r.map fun x => x.tool).getD 0), natWord e.2.slot,
    markWord e.2.isProtected, natWord ((r.map fun x => x.life).getD 0), natWord ((r.map Record.grade).getD 0),
    markWord ((r.map fun x => x.warned).getD false), markWord ((r.map fun x => x.ended).getD false)]

/-- QUERY-POCKET (R140); RANGE comes before NOT-PERMITTED (DESIGN CHOICE, log 23). -/
def queryMagazine (client : Nat) (machine pocket : Word) (s : Hall) : Reply :=
  if 63 < machine.toNat ∨ !pocketInRange pocket then refuse .range s
  else if decide ((s.client client).role = .machine) && machine.toNat != client then refuse .notPermitted s
  else
    let all := bindingsOf machine.toNat s
    let page := (all.filter fun e => decide (pocket.toNat ≤ e.2.pocket)).take Config.pageEntries
    accept (natWord all.length :: page.flatMap (pocketEntry s)) s

end Sys2Proof.Machine
end

