-- ==== Sys2Proof/Machine/Starts.lean ====
section
/-! DEFINITION. What a cold start and a warm start do to the units (10.7 and the close of each chapter). -/

namespace Sys2Proof.Machine

/-- The two states a warm start settles (R22): GAUGING to its resume state, PROMISED to READY, or to HELD AUDIT when its
opened mark is set; the opened mark is cleared in both cases of PROMISED. -/
def Record.settle (r : Record) : Record :=
  match r.status with
  | .gauging resume => { r with status := resume.status }
  | .promised =>
    if r.opened then { r with status := .held .audit, opened := false } else { r with status := .ready, opened := false }
  | _ => r

/-- The chains rebuilt from the READY records (R22, R11). -/
def rebuildChains (records : Table Record) : List (Nat × Record) → Table (List Nat)
  | [] => []
  | (slot, r) :: rest =>
    let chains := rebuildChains records rest
    if r.status = .ready then chains.putList r.cls (chainInsert records slot r (chains.list r.cls)) else chains

/-- The index rebuilt from the live records (R22). -/
def rebuildIndex : List (Nat × Record) → Table Nat
  | [] => []
  | (slot, r) :: rest => (rebuildIndex rest).put r.tool slot

/-- A class's usable count recomputed by counting, and its low mark by comparison, without a notice (R39). -/
def recount (records : Table Record) (cls : Nat) (c : ClassEntry) : ClassEntry :=
  { c with usable := Table.count (fun r : Record => r.cls == cls && r.usable) records }.reassess

/-- A station at a warm start (R58, R80): GAUGING back to its entry state, the staged halves, the pending mark and the
session lost, no activation. -/
def Station.settle (st : Station) : Station :=
  { st with
    state := match st.state with
      | .gauging entry => entry.state
      | other => other
    stagedGeometry := none
    stagedCorrection := none
    pending := false
    session := none }

/-- A channel at a warm start (R125): the level its filter has seen, no window, an empty queue, and OFF, IDLE or FORCED. -/
def Channel.settle (c : Channel) : Channel :=
  { c with
    level := c.filter
    timer := none
    queue := []
    state :=
      if !c.enabled then .off
      else match c.filter with
        | .shut => .idle
        | .open => .forced }

/-- At least one enabled channel starts FORCED (R125). -/
def anyForced (channels : Vector Channel 16) : Bool := channels.toList.any fun c => decide (c.state = .forced)

/-- The flags after a warm start: COLD-START as it was, and CHANNEL-FAULT when a channel starts FORCED (R195, R125). -/
def warmFlags (flags : BitVec 7) (channels : Vector Channel 16) : BitVec 7 :=
  (flags &&& Flag.coldStart.mask) ||| (if anyForced channels then Flag.channelFault.mask else 0#7)

/-- A mode that was DRAINING becomes OFFLINE (R105). -/
def IssueMode.settle : IssueMode → IssueMode
  | .online => .online
  | .draining => .offline
  | .offline => .offline

/-- A warm start of the units (R22, R39, R58, R80, R105, R125, R143, R165, R184, R185, R195, R197, R200). -/
def warmStart (cause : StartCause) (s : Hall) : Hall :=
  let records := s.records.mapValues Record.settle
  let channels := mapBank Channel.settle s.channels
  { s with
    records := records
    index := rebuildIndex records
    chains := rebuildChains records records
    classes := s.classes.map fun e => (e.1, recount records e.1 e.2)
    stations := mapBank Station.settle s.stations
    tickets := []
    waitQueues := []
    mode := s.mode.settle
    channels := channels
    handover := []
    sweep := ⟨s.sweep.period, s.sweep.period, 0⟩
    flags := warmFlags s.flags channels
    startKind := .warm
    startCause := cause }

/-- The level a CLOSED input reads: high while the drawer is shut (10.12). -/
def levelOf (high : Bool) : DrawerLevel := if high then .shut else .open

/-- The levels the sixteen CLOSED inputs read at the release of reset (R202). -/
def levelsOf (closedInputs : BitVec 16) : Vector DrawerLevel 16 :=
  Vector.ofFn fun i => levelOf (closedInputs.getLsbD i.val)

/-- At a start after reset each filter is set to the level its input reads (R202). -/
def setFilters (levels : Vector DrawerLevel 16) (s : Hall) : Hall :=
  { s with channels := Vector.ofFn fun c => { s.channel c with filter := levels.get c } }

/-- A cold start of the units (R23, R40, R59, R81, R106, R125, R126, R144, R165, R184, R191, R195, R197, R200). The
model's own counter goes on. -/
def coldStart (levels : Vector DrawerLevel 16) (s : Hall) : Hall := { Hall.cold levels with freeIndex := s.freeIndex }

end Sys2Proof.Machine
end

