-- ==== Sys2Proof/Machine/Port.lean ====
section
/-! DEFINITION. The request port (chapter 10): the queues and their handshake, the checks of a message taken, the
placing of responses and notices, the lines, the starts and the seconds of the reference clock. -/

namespace Sys2Proof.Machine

/-! ### Placing messages (R190) -/

/-- The places of the outbound queue that are kept: one for the response of a request that is being served (R188). -/
def Port.kept (p : Port) : Nat := if p.serving.isSome then 1 else 0

/-- A notice takes the next place of the outbound queue; when the queue holds 32 messages, or only the place kept for a
response is free, it is dropped and OVERRUN is set (R190). -/
def placeNotice (s : State) (n : Notice) : State :=
  if s.port.outbound.length + s.port.kept < Config.outboundPlaces then
    { s with port := { s.port with outbound := s.port.outbound ++ [.notice n] } }
  else { s with hall := setFlag .overrun s.hall }

/-- Notices are placed in the order they were asked for. -/
def placeNotices (notices : List Notice) (s : State) : State := notices.foldl placeNotice s

/-- A start is pending from the moment the OK response of RESTART is placed (R198). -/
def startAfter (kindCode : Byte) (code : Code) (start : StartPhase) : StartPhase :=
  if kindCode = Kind.restart.code ∧ code = .ok then .pending else start

/-- What a unit's reply leaves to place, with the kind code, client number and tag of the request. -/
def Reply.answer (r : Reply) (kindCode client : Byte) (tag : Word) : Answer :=
  ⟨kindCode, client, tag, r.code, r.body, r.notices⟩

/-- The response is placed, then the request's own notices (R188, R190). -/
def placeAnswer (a : Answer) (s : State) : State :=
  placeNotices a.notices
    { s with port := { s.port with
        outbound := s.port.outbound ++ [.response a.kindCode a.client a.tag a.code a.body]
        start := startAfter a.kindCode a.code s.port.start } }

/-- The immediate effects of a request that its unit has answered: the unit's changes of state, then what it places. -/
def answer (kindCode client : Byte) (tag : Word) (r : Reply) (s : State) : State :=
  placeAnswer (r.answer kindCode client tag) { s with hall := r.hall }

/-! ### The checks of a message (R189) -/

/-- The request summary of 10.9: whether a role may send a request. NONE may send none. -/
def roleAllows (role : Role) (k : Kind) : Bool :=
  match role with
  | .none => false
  | .toolroom =>
    match k with
    | .gaugeBegin | .gaugePoint | .gaugeEnd | .gaugeAbort => false
    | .returnTool | .handover => false
    | .mount | .dismount | .protect | .unprotect | .usage => false
    | _ => true
  | .presetter =>
    match k with
    | .enrol | .queryTool | .findClass | .queryClass | .calGeometry | .calCorrection | .queryStation => true
    | .gaugeBegin | .gaugePoint | .gaugeEnd | .gaugeAbort => true
    | .queryIssue | .queryTicket | .queryChannel | .queryHandover | .queryProgram | .queryClient | .identify => true
    | _ => false
  | .crib =>
    match k with
    | .moveBin | .queryTool | .findClass | .queryClass | .queryStation => true
    | .issue | .cancel | .returnTool | .handover => true
    | .queryIssue | .queryTicket | .queryChannel | .queryHandover | .queryProgram | .queryClient | .identify => true
    | _ => false
  | .machine =>
    match k with
    | .queryTool | .findClass | .queryClass | .queryStation | .issue | .cancel => true
    | .mount | .dismount | .protect | .unprotect | .resendHandoff | .queryPocket | .usage => true
    | .queryIssue | .queryTicket | .queryChannel | .queryHandover | .queryProgram | .queryClient | .identify => true
    | _ => false

/-- The part of check 3 that depends on the sender's role or on the encoded steps: RESEND-HANDOFF has one word from a
MACHINE client and two from a TOOLROOM client (R204), and no kind byte of a STORE-PROGRAM lies outside 0x01 to 0x0A
(R207). -/
def bodyFormOk (role : Role) : Instr → Bool
  | .resendHandoff _ machine _ => machine.isSome == decide (role = .toolroom)
  | .storeProgram _ _ bytes => kindBytesOk bytes
  | _ => true

/-- The owning unit's part of a request (check 4 of R189). An event or a malformed message has no owning unit: nothing
passes one to it. -/
def handle (i : Instr) (s : Hall) : Reply :=
  match i with
  | .enrol _ tool cls loc life => enrolTool tool cls loc life s
  | .retire _ tool => retireTool tool s
  | .hold _ tool => holdTool tool s
  | .releaseHold _ tool regrind => releaseHeld tool regrind s
  | .moveBin _ tool loc => moveTool tool loc s
  | .queryTool _ tool => queryRecord tool s
  | .findClass _ cls start => findInClass cls start s
  | .defineClass _ cls shape policy => defineEntry cls shape policy s
  | .queryClass _ cls => queryEntry cls s
  | .deleteClass _ cls => deleteEntry cls s
  | .stats _ cls clear => classStats cls clear s
  | .calGeometry h station values => writeGeometry h.client.toNat station values s
  | .calCorrection h station values => writeCorrection h.client.toNat station values s
  | .configureStation _ station window => configureGaugeWindow station window s
  | .queryStation _ station => queryStationImage station s
  | .holdByCalibration _ station generation => holdCalibration station generation s
  | .gaugeBegin h tool => beginSession h.client.toNat tool s
  | .gaugePoint h z x => takePoint h.client.toNat z x s
  | .gaugeEnd h temperature => endSession h.client.toNat temperature s
  | .gaugeAbort h => abortByRequest h.client.toNat s
  | .issue h form => issueTicket h.client.toNat h.tag form s
  | .cancel h ticket tag => cancelByNumber h.client.toNat ticket tag s
  | .returnTool _ tool loc => returnToCrib tool loc s
  | .setIssueMode _ on => changeMode on s
  | .queryIssue _ cls start => queryPool cls start s
  | .queryTicket _ ticket => queryTicketImage ticket s
  | .configureChannel _ channel enabled openWindow takeWindow =>
    configureDrawer channel enabled openWindow takeWindow s
  | .clearChannel _ channel => clearDrawer channel s
  | .handover _ ticket tag => handOver ticket tag s
  | .queryChannel _ channel start => queryDrawer channel start s
  | .queryHandover _ start => queryHandoverList start s
  | .mount h tool pocket => mountTool h.client.toNat tool pocket s
  | .dismount h pocket => dismountPocket h.client.toNat pocket s
  | .protect h pocket => setProtection h.client.toNat pocket true s
  | .unprotect h pocket => setProtection h.client.toNat pocket false s
  | .adjust _ tool lengthDelta radiusDelta => adjustTool tool lengthDelta radiusDelta s
  | .resendHandoff h machine pocket => resendHandoffBlock h.client.toNat machine pocket s
  | .queryPocket h machine pocket => queryMagazine h.client.toNat machine pocket s
  | .storeProgram _ program bytes => storeSteps program bytes s
  | .queryProgram _ program => queryStored program s
  | .renderTest _ program tool offset => testRender program tool offset s
  | .usage h pocket amount => reportUsage h.client.toNat h.tag pocket amount s
  | .setSweep _ period => storePeriod period s
  | .setClient _ client form => setEntry client form s
  | .queryClient h client => queryEntryOf h.client.toNat client s
  | .attention _ choice => readAttention choice s
  | .setEnables _ enables => storeEnables enables s
  | .restart _ => answerRestart s
  | .wipe _ => wipeHall s
  | .identify _ => identifyPart s
  | .malformedMessage _ | .messageRead | .opened _ | .closed _ | .openWindowExpiry _ | .takeWindowExpiry _
  | .gaugeWindowExpiry _ | .sweep | .reset _ _ | .pendingStart | .messageWordWritten _ => refuse .malformed s

/-- The answer to a request that a message spells: the client number of check 1, the role of check 2, what is left of
check 3, then the owning unit (R189). -/
def answerRequest (k : Kind) (h : Header) (i : Instr) (s : Hall) : Reply :=
  if 63 < h.client.toNat then refuse .malformed s
  else if !roleAllows (s.client h.client.toNat).role k then refuse .notPermitted s
  else if !bodyFormOk (s.client h.client.toNat).role i then refuse .malformed s
  else handle i s

/-- The header of a message by its words (R203). -/
def headerOf (w0 w1 : Word) : Header := ⟨clientOf w0, w1⟩

/-- The answer to a message by its words: checks 1 to 3 of R189 in order, then the owning unit. A body that spells no
request is answered after the role check, as the checks stand. -/
def answerWords (w0 w1 : Word) (body : List Word) (s : Hall) : Reply :=
  if typeOf w0 ≠ 1 ∨ 63 < (clientOf w0).toNat ∨ 62 < bodyLengthOf w0 then refuse .malformed s
  else
    match Kind.ofCode (kindCodeOf w0) with
    | none => refuse .malformed s
    | some k =>
      if !roleAllows (s.client (clientOf w0).toNat).role k then refuse .notPermitted s
      else
        match decodeBody k (headerOf w0 w1) body with
        | none => refuse .malformed s
        | some i => answerRequest k (headerOf w0 w1) i s

/-- The port serves a complete message it has taken, and the response carries the kind code, the client number and the
tag as received (R189). -/
def serveWords (words : List Word) (s : State) : State :=
  match words with
  | w0 :: w1 :: body => answer (kindCodeOf w0) (clientOf w0) w1 (answerWords w0 w1 body s.hall) s
  | _ => s

/-- The port takes a complete message: its checks and its changes of state are made then, so that events are judged in
the order in which they are taken (R201), and what it places waits with a place kept for the response (R188). -/
def takeWords (words : List Word) (s : State) : State :=
  match words with
  | w0 :: w1 :: body =>
    let r := answerWords w0 w1 body s.hall
    { s with hall := r.hall, port := { s.port with serving := some (r.answer (kindCodeOf w0) (clientOf w0) w1) } }
  | _ => s

/-- The port serves a request. -/
def serveRequest (k : Kind) (h : Header) (i : Instr) (s : State) : State :=
  answer k.code h.client h.tag (answerRequest k h i s.hall) s

/-! ### The inbound queue (R186, R188) -/

/-- The port may take a message: it has finished the request taken before, no start is pending and the outbound queue has
at least 4 free places (R188, R198). -/
def Port.mayTake (p : Port) : Bool :=
  p.serving.isNone && decide (p.start = .none) &&
    decide (p.outbound.length + Config.takingPlaces ≤ Config.outboundPlaces)

/-- The newest message is partly written and still takes words (R186). -/
def newestPartial : List (List Word) → Bool
  | [] => false
  | [m] => !oneMessage m
  | _ :: m :: rest => newestPartial (m :: rest)

/-- Ready: a place is free, or a partly written message is still taking words (R186). -/
def Port.readyLine (p : Port) : Bool := decide (p.inbound.length < Config.inboundPlaces) || newestPartial p.inbound

/-- A word joins the partly written message, or begins a message at a place of its own (R186). -/
def writeInto (w : Word) : List (List Word) → List (List Word)
  | [] => [[w]]
  | [m] => if oneMessage m then [m, [w]] else [m ++ [w]]
  | m :: n :: rest => m :: writeInto w (n :: rest)

/-- The port takes the oldest message when it is complete and the port may take one: its place in the inbound queue is
free from then on (R186, R188). -/
def portTake (s : State) : State :=
  match s.port.inbound with
  | [] => s
  | m :: rest =>
    if oneMessage m && s.port.mayTake then takeWords m { s with port := { s.port with inbound := rest } } else s

/-- The response of the request in service takes the place kept for it and its notices follow; the port may then take the
next message (R188). -/
def finishServing (a : Answer) (s : State) : State :=
  portTake (placeAnswer a { s with port := { s.port with serving := none } })

/-- The link processor writes a word, which counts while ready is asserted (R186). -/
def writeWord (s : State) (w : Word) : State :=
  if s.port.readyLine then portTake { s with port := { s.port with inbound := writeInto w s.port.inbound } } else s

/-- The link processor writes a sequence of words. -/
def writeWords (words : List Word) (s : State) : State := words.foldl writeWord s

/-- A request command: the link processor presents the whole message. With an empty inbound queue and a port that may
take it, the message is taken and its immediate effects are made within the command; else its words go in one after
another (log 3). -/
def present (i : Instr) (s : State) : State :=
  match i.kind, i.header with
  | some k, some h =>
    if s.port.inbound = [] ∧ s.port.mayTake = true then serveRequest k h i s else writeWords (encode i) s
  | _, _ => s

/-- The same for a message given by its words. -/
def presentWords (words : List Word) (s : State) : State :=
  if s.port.inbound = [] ∧ s.port.mayTake = true then serveWords words s else writeWords words s

/-! ### The outbound queue (R187) -/

/-- The OK response of a RESTART. -/
def OutMessage.isRestartAnswer : OutMessage → Bool
  | .response kindCode _ _ code _ => kindCode == Kind.restart.code && decide (code = .ok)
  | .notice _ => false

/-- The link processor reads the next word of the head message. With the last word the message leaves the queue and its
place is free; the port may then take the oldest complete message (R187, R188), and when the message is the response of a
RESTART, the start is due (R198). With no message waiting the read gives 0, a word of a header whose type is none, and
changes nothing else (R187, R203). -/
def readMessage (s : State) : State :=
  match s.port.outbound with
  | [] => { s with port := { s.port with readOut := 0 } }
  | m :: rest =>
    let word := m.words.getD s.port.readCount 0
    if s.port.readCount + 1 < m.words.length then
      { s with port := { s.port with readCount := s.port.readCount + 1, readOut := word } }
    else
      let start := if s.port.start = .pending ∧ m.isRestartAnswer = true then .due else s.port.start
      portTake { s with port := { s.port with outbound := rest, readCount := 0, start := start, readOut := word } }

/-! ### The lines (R125, R186, R187, R195) -/

/-- RELEASE of each channel, asserted while the channel is RELEASED (R108, R125). -/
def releaseLines (s : Hall) : Vector Bool 16 := mapBank (fun c => decide (c.state = .released)) s.channels

/-- The lines follow the queues, the flags and the channel states. -/
def drivePins (s : State) : State :=
  { s with port := { s.port with
      pins := ⟨s.port.readyLine, !s.port.outbound.isEmpty, attnLine s.hall, releaseLines s.hall⟩ } }

/-! ### Events of the units -/

/-- An event taken at the unit that owns its state: the unit's changes, then its notices (10.3, R190). -/
def takeEvent (event : Hall → Hall × List Notice) (s : State) : State :=
  placeNotices (event s.hall).2 { s with hall := (event s.hall).1 }

/-! ### Starts (R197, R198) -/

/-- The port at the end of a start: empty queues, no request in service and no start pending. -/
def Port.afterStart (p : Port) : Port :=
  { p with inbound := [], outbound := [], readCount := 0, serving := none, start := .none, readOut := 0 }

/-- The start after the release of reset: RETAIN high is a warm start and low a cold start (R197, R202). -/
def startByReset (retain : Bool) (closedInputs : BitVec 16) (s : State) : State :=
  { s with
    port := s.port.afterStart
    hall := if retain then warmStart .retain (setFilters (levelsOf closedInputs) s.hall)
      else coldStart (levelsOf closedInputs) s.hall }

/-- The warm start that a RESTART asked for, once its response has been read out (R198). Nothing happens when none is
due. -/
def startByRestart (s : State) : State :=
  if s.port.start = .due then { s with port := s.port.afterStart, hall := warmStart .restart s.hall } else s

/-! ### The reference clock (R202, log 2) -/

/-- A timed event that falls on a second of the reference clock. -/
inductive Due where
  | gauge (station : Fin 4)
  | openWindow (channel : Fin 16)
  | takeWindow (channel : Fin 16)
  | sweep
  deriving DecidableEq, Repr

/-- A second counts down a running gauge window. -/
def Station.second (st : Station) : Station :=
  { st with session := st.session.map fun x => { x with timer := x.timer - 1 } }

/-- A second counts down a running open or take window. -/
def Channel.second (c : Channel) : Channel := { c with timer := c.timer.map fun t => t - 1 }

/-- A second passes for the window timers and the sweep timer. -/
def countSecond (s : Hall) : Hall :=
  { s with
    stations := mapBank Station.second s.stations
    channels := mapBank Channel.second s.channels
    sweep := { s.sweep with count := s.sweep.count + 1 }
    freeIndex := s.freeIndex + 1 }

/-- The gauge windows that have run out. -/
def dueGauges (s : Hall) : List Due :=
  ((List.finRange 4).filter fun n => decide ((s.station n).session.map Session.timer = some 0)).map Due.gauge

/-- The window of a channel that has run out, by the channel's state (R112, R113, R115). -/
def dueWindow (s : Hall) (c : Fin 16) : List Due :=
  match (s.channel c).timer, (s.channel c).state with
  | some 0, .released => [.openWindow c]
  | some 0, .opened => [.takeWindow c]
  | _, _ => []

/-- Every event that the second brings, in the order of the units. -/
def dueEvents (s : Hall) : List Due :=
  dueGauges s ++ (List.finRange 16).flatMap (dueWindow s) ++
    (if s.sweep.length ≤ s.sweep.count then [.sweep] else [])

/-- The event of a unit that a second brings. -/
def Due.event : Due → Hall → Hall × List Notice
  | .gauge n => gaugeExpiry n
  | .openWindow c => openExpiry c
  | .takeWindow c => takeExpiry c
  | .sweep => sweepEvent

/-- A second of the reference clock: the timers count, then each event it brings is taken whole, in an order the manual
leaves open (log 4). -/
def secondPasses (s : State) : State :=
  let counted := { s with hall := countSecond s.hall }
  let due := dueEvents counted.hall
  (arrange due.length (Config.coincidence s.hall.freeIndex) due).foldl (fun s d => takeEvent d.event s) counted

/-- What the part does while no command waits: it makes a start that is due, or places the response of a request it has
taken, or a second passes (log 2, log 3). -/
def idle (s : State) : State :=
  drivePins
    (if s.port.start = .due then startByRestart s
    else match s.port.serving with
      | some a => finishServing a s
      | none => secondPasses s)

end Sys2Proof.Machine
end

