-- ==== Sys2Proof/Machine/EventCommands.lean ====
section
/-! DEFINITION. The meanings of the commands that are no requests: the reading of a message, the writing of a word, the
drawer-line events, the timer expiries, the sweep and the starts. -/

namespace Sys2Proof.Machine

/-- MALFORMED_MESSAGE (R189): the words of one whole message are presented. A message of the wrong form is answered with
MALFORMED; words of the right form are what they spell. -/
def execMalformedMessage (words : List Word) (s : State) : Host.Outcome State Fault Refusal :=
  if (Instr.malformedMessage words).wellFormed then .next (drivePins (presentWords words s)) else .refused .illFormed

/-- MESSAGE_READ (R187): the next word of the head message is read. -/
def execMessageRead (s : State) : Host.Outcome State Fault Refusal :=
  .next (drivePins (readMessage s))

/-- OPENED (R107): the fall of a CLOSED input has held for 20 ms. -/
def execOpened (channel : Fin 16) (s : State) : Host.Outcome State Fault Refusal :=
  .next (drivePins (takeEvent (openedEvent channel) s))

/-- CLOSED (R107): the rise of a CLOSED input has held for 20 ms. -/
def execClosed (channel : Fin 16) (s : State) : Host.Outcome State Fault Refusal :=
  .next (drivePins (takeEvent (closedEvent channel) s))

/-- OPEN_WINDOW_EXPIRY (R113). -/
def execOpenWindowExpiry (channel : Fin 16) (s : State) : Host.Outcome State Fault Refusal :=
  .next (drivePins (takeEvent (openExpiry channel) s))

/-- TAKE_WINDOW_EXPIRY (R115). -/
def execTakeWindowExpiry (channel : Fin 16) (s : State) : Host.Outcome State Fault Refusal :=
  .next (drivePins (takeEvent (takeExpiry channel) s))

/-- GAUGE_WINDOW_EXPIRY (R68). -/
def execGaugeWindowExpiry (station : Fin 4) (s : State) : Host.Outcome State Fault Refusal :=
  .next (drivePins (takeEvent (gaugeExpiry station) s))

/-- SWEEP (R177). -/
def execSweep (s : State) : Host.Outcome State Fault Refusal :=
  .next (drivePins (takeEvent sweepEvent s))

/-- RESET (R197): reset is released. -/
def execReset (retain : Bool) (closedInputs : BitVec 16) (s : State) : Host.Outcome State Fault Refusal :=
  .next (drivePins (startByReset retain closedInputs s))

/-- PENDING_START (R198). -/
def execPendingStart (s : State) : Host.Outcome State Fault Refusal :=
  .next (drivePins (startByRestart s))

/-- MESSAGE_WORD_WRITTEN (R186). -/
def execMessageWordWritten (word : Word) (s : State) : Host.Outcome State Fault Refusal :=
  .next (drivePins (writeWord s word))

end Sys2Proof.Machine
end

