-- ==== Sys2Proof/Machine/RequestCommands.lean ====
section
/-! DEFINITION. The meanings of the request commands, one for each request of the summary in 10.9: the link processor
presents the message, the port takes it when it may, its owning unit answers it, and the lines follow. -/

namespace Sys2Proof.Machine

/-- ENROL (R13); the owning unit's part is `enrolTool`. -/
def execEnrol (h : Header) (tool cls : Word) (loc : CribLoc) (life : Option Word) (s : State) :
    Host.Outcome State Fault Refusal :=
  .next (drivePins (present (.enrol h tool cls loc life) s))

/-- RETIRE (R14); the owning unit's part is `retireTool`. -/
def execRetire (h : Header) (tool : Word) (s : State) : Host.Outcome State Fault Refusal :=
  .next (drivePins (present (.retire h tool) s))

/-- HOLD (R15); the owning unit's part is `holdTool`. -/
def execHold (h : Header) (tool : Word) (s : State) : Host.Outcome State Fault Refusal :=
  .next (drivePins (present (.hold h tool) s))

/-- RELEASE-HOLD (R16); the owning unit's part is `releaseHeld`. -/
def execReleaseHold (h : Header) (tool : Word) (regrind : Bool) (s : State) : Host.Outcome State Fault Refusal :=
  .next (drivePins (present (.releaseHold h tool regrind) s))

/-- MOVE-BIN (R18); the owning unit's part is `moveTool`. -/
def execMoveBin (h : Header) (tool : Word) (loc : CribLoc) (s : State) : Host.Outcome State Fault Refusal :=
  .next (drivePins (present (.moveBin h tool loc) s))

/-- QUERY-TOOL (R19); the owning unit's part is `queryRecord`. -/
def execQueryTool (h : Header) (tool : Word) (s : State) : Host.Outcome State Fault Refusal :=
  .next (drivePins (present (.queryTool h tool) s))

/-- FIND-CLASS (R20); the owning unit's part is `findInClass`. -/
def execFindClass (h : Header) (cls start : Word) (s : State) : Host.Outcome State Fault Refusal :=
  .next (drivePins (present (.findClass h cls start) s))

/-- DEFINE-CLASS (R27); the owning unit's part is `defineEntry`. -/
def execDefineClass (h : Header) (cls : Word) (shape : ShapeWords) (policy : PolicyWords) (s : State) :
    Host.Outcome State Fault Refusal :=
  .next (drivePins (present (.defineClass h cls shape policy) s))

/-- QUERY-CLASS (R31); the owning unit's part is `queryEntry`. -/
def execQueryClass (h : Header) (cls : Word) (s : State) : Host.Outcome State Fault Refusal :=
  .next (drivePins (present (.queryClass h cls) s))

/-- DELETE-CLASS (R32); the owning unit's part is `deleteEntry`. -/
def execDeleteClass (h : Header) (cls : Word) (s : State) : Host.Outcome State Fault Refusal :=
  .next (drivePins (present (.deleteClass h cls) s))

/-- STATS (R37); the owning unit's part is `classStats`. -/
def execStats (h : Header) (cls : Word) (clear : Bool) (s : State) : Host.Outcome State Fault Refusal :=
  .next (drivePins (present (.stats h cls clear) s))

/-- CAL-GEOMETRY (R49); the owning unit's part is `writeGeometry`. -/
def execCalGeometry (h : Header) (station : Word) (values : GeometryWords) (s : State) :
    Host.Outcome State Fault Refusal :=
  .next (drivePins (present (.calGeometry h station values) s))

/-- CAL-CORRECTION (R50); the owning unit's part is `writeCorrection`. -/
def execCalCorrection (h : Header) (station : Word) (values : CorrectionWords) (s : State) :
    Host.Outcome State Fault Refusal :=
  .next (drivePins (present (.calCorrection h station values) s))

/-- CONFIGURE-STATION (R46); the owning unit's part is `configureGaugeWindow`. -/
def execConfigureStation (h : Header) (station window : Word) (s : State) : Host.Outcome State Fault Refusal :=
  .next (drivePins (present (.configureStation h station window) s))

/-- QUERY-STATION (R56); the owning unit's part is `queryStationImage`. -/
def execQueryStation (h : Header) (station : Word) (s : State) : Host.Outcome State Fault Refusal :=
  .next (drivePins (present (.queryStation h station) s))

/-- HOLD-BY-CALIBRATION (R55); the owning unit's part is `holdCalibration`. -/
def execHoldByCalibration (h : Header) (station generation : Word) (s : State) : Host.Outcome State Fault Refusal :=
  .next (drivePins (present (.holdByCalibration h station generation) s))

/-- GAUGE-BEGIN (R62); the owning unit's part is `beginSession`. -/
def execGaugeBegin (h : Header) (tool : Word) (s : State) : Host.Outcome State Fault Refusal :=
  .next (drivePins (present (.gaugeBegin h tool) s))

/-- GAUGE-POINT (R65); the owning unit's part is `takePoint`. -/
def execGaugePoint (h : Header) (z x : Word) (s : State) : Host.Outcome State Fault Refusal :=
  .next (drivePins (present (.gaugePoint h z x) s))

/-- GAUGE-END (R66); the owning unit's part is `endSession`. -/
def execGaugeEnd (h : Header) (temperature : Word) (s : State) : Host.Outcome State Fault Refusal :=
  .next (drivePins (present (.gaugeEnd h temperature) s))

/-- GAUGE-ABORT (R67); the owning unit's part is `abortByRequest`. -/
def execGaugeAbort (h : Header) (s : State) : Host.Outcome State Fault Refusal :=
  .next (drivePins (present (.gaugeAbort h) s))

/-- ISSUE (R91); the owning unit's part is `issueTicket`. -/
def execIssue (h : Header) (form : IssueForm) (s : State) : Host.Outcome State Fault Refusal :=
  .next (drivePins (present (.issue h form) s))

/-- CANCEL (R98); the owning unit's part is `cancelByNumber`. -/
def execCancel (h : Header) (ticket : Word) (tag : Option Word) (s : State) : Host.Outcome State Fault Refusal :=
  .next (drivePins (present (.cancel h ticket tag) s))

/-- RETURN (R102); the owning unit's part is `returnToCrib`. -/
def execReturnTool (h : Header) (tool : Word) (loc : CribLoc) (s : State) : Host.Outcome State Fault Refusal :=
  .next (drivePins (present (.returnTool h tool loc) s))

/-- SET-ISSUE-MODE (R87); the owning unit's part is `changeMode`. -/
def execSetIssueMode (h : Header) (on : Bool) (s : State) : Host.Outcome State Fault Refusal :=
  .next (drivePins (present (.setIssueMode h on) s))

/-- QUERY-ISSUE (R89); the owning unit's part is `queryPool`. -/
def execQueryIssue (h : Header) (cls start : Word) (s : State) : Host.Outcome State Fault Refusal :=
  .next (drivePins (present (.queryIssue h cls start) s))

/-- QUERY-TICKET (R90); the owning unit's part is `queryTicketImage`. -/
def execQueryTicket (h : Header) (ticket : Word) (s : State) : Host.Outcome State Fault Refusal :=
  .next (drivePins (present (.queryTicket h ticket) s))

/-- CONFIGURE-CHANNEL (R109); the owning unit's part is `configureDrawer`. -/
def execConfigureChannel (h : Header) (channel : Word) (enabled : Bool) (openWindow takeWindow : Word) (s : State) :
    Host.Outcome State Fault Refusal :=
  .next (drivePins (present (.configureChannel h channel enabled openWindow takeWindow) s))

/-- CLEAR-CHANNEL (R119); the owning unit's part is `clearDrawer`. -/
def execClearChannel (h : Header) (channel : Word) (s : State) : Host.Outcome State Fault Refusal :=
  .next (drivePins (present (.clearChannel h channel) s))

/-- HANDOVER (R122); the owning unit's part is `handOver`. -/
def execHandover (h : Header) (ticket : Word) (tag : Option Word) (s : State) : Host.Outcome State Fault Refusal :=
  .next (drivePins (present (.handover h ticket tag) s))

/-- QUERY-CHANNEL (R123); the owning unit's part is `queryDrawer`. -/
def execQueryChannel (h : Header) (channel start : Word) (s : State) : Host.Outcome State Fault Refusal :=
  .next (drivePins (present (.queryChannel h channel start) s))

/-- QUERY-HANDOVER (R123); the owning unit's part is `queryHandoverList`. -/
def execQueryHandover (h : Header) (start : Word) (s : State) : Host.Outcome State Fault Refusal :=
  .next (drivePins (present (.queryHandover h start) s))

/-- MOUNT (R129); the owning unit's part is `mountTool`. -/
def execMount (h : Header) (tool pocket : Word) (s : State) : Host.Outcome State Fault Refusal :=
  .next (drivePins (present (.mount h tool pocket) s))

/-- DISMOUNT (R132); the owning unit's part is `dismountPocket`. -/
def execDismount (h : Header) (pocket : Word) (s : State) : Host.Outcome State Fault Refusal :=
  .next (drivePins (present (.dismount h pocket) s))

/-- PROTECT (R133); the owning unit's part is `setProtection`. -/
def execProtect (h : Header) (pocket : Word) (s : State) : Host.Outcome State Fault Refusal :=
  .next (drivePins (present (.protect h pocket) s))

/-- UNPROTECT (R133); the owning unit's part is `setProtection`. -/
def execUnprotect (h : Header) (pocket : Word) (s : State) : Host.Outcome State Fault Refusal :=
  .next (drivePins (present (.unprotect h pocket) s))

/-- ADJUST (R134); the owning unit's part is `adjustTool`. -/
def execAdjust (h : Header) (tool lengthDelta radiusDelta : Word) (s : State) : Host.Outcome State Fault Refusal :=
  .next (drivePins (present (.adjust h tool lengthDelta radiusDelta) s))

/-- RESEND-HANDOFF (R139); the owning unit's part is `resendHandoffBlock`. -/
def execResendHandoff (h : Header) (machine : Option Word) (pocket : Word) (s : State) :
    Host.Outcome State Fault Refusal :=
  .next (drivePins (present (.resendHandoff h machine pocket) s))

/-- QUERY-POCKET (R140); the owning unit's part is `queryMagazine`. -/
def execQueryPocket (h : Header) (machine pocket : Word) (s : State) : Host.Outcome State Fault Refusal :=
  .next (drivePins (present (.queryPocket h machine pocket) s))

/-- STORE-PROGRAM (R147); the owning unit's part is `storeSteps`. -/
def execStoreProgram (h : Header) (program : Byte) (bytes : List Byte) (s : State) :
    Host.Outcome State Fault Refusal :=
  if (Instr.storeProgram h program bytes).wellFormed then
    .next (drivePins (present (.storeProgram h program bytes) s))
  else .refused .illFormed

/-- QUERY-PROGRAM (R163); the owning unit's part is `queryStored`. -/
def execQueryProgram (h : Header) (program : Word) (s : State) : Host.Outcome State Fault Refusal :=
  .next (drivePins (present (.queryProgram h program) s))

/-- RENDER-TEST (R162); the owning unit's part is `testRender`. -/
def execRenderTest (h : Header) (program tool offset : Word) (s : State) : Host.Outcome State Fault Refusal :=
  .next (drivePins (present (.renderTest h program tool offset) s))

/-- USAGE (R167); the owning unit's part is `reportUsage`. -/
def execUsage (h : Header) (pocket amount : Word) (s : State) : Host.Outcome State Fault Refusal :=
  .next (drivePins (present (.usage h pocket amount) s))

/-- SET-SWEEP (R176); the owning unit's part is `storePeriod`. -/
def execSetSweep (h : Header) (period : Option Word) (s : State) : Host.Outcome State Fault Refusal :=
  .next (drivePins (present (.setSweep h period) s))

/-- SET-CLIENT (R192); the owning unit's part is `setEntry`. -/
def execSetClient (h : Header) (client : Word) (form : ClientForm) (s : State) : Host.Outcome State Fault Refusal :=
  .next (drivePins (present (.setClient h client form) s))

/-- QUERY-CLIENT (R194); the owning unit's part is `queryEntryOf`. -/
def execQueryClient (h : Header) (client : Word) (s : State) : Host.Outcome State Fault Refusal :=
  .next (drivePins (present (.queryClient h client) s))

/-- ATTENTION (R196); the owning unit's part is `readAttention`. -/
def execAttention (h : Header) (choice : BitVec 7) (s : State) : Host.Outcome State Fault Refusal :=
  .next (drivePins (present (.attention h choice) s))

/-- SET-ENABLES (R196); the owning unit's part is `storeEnables`. -/
def execSetEnables (h : Header) (enables : BitVec 7) (s : State) : Host.Outcome State Fault Refusal :=
  .next (drivePins (present (.setEnables h enables) s))

/-- RESTART (R198); the owning unit's part is `answerRestart`. -/
def execRestart (h : Header) (s : State) : Host.Outcome State Fault Refusal :=
  .next (drivePins (present (.restart h) s))

/-- WIPE (R199); the owning unit's part is `wipeHall`. -/
def execWipe (h : Header) (s : State) : Host.Outcome State Fault Refusal :=
  .next (drivePins (present (.wipe h) s))

/-- IDENTIFY (R200); the owning unit's part is `identifyPart`. -/
def execIdentify (h : Header) (s : State) : Host.Outcome State Fault Refusal :=
  .next (drivePins (present (.identify h) s))

end Sys2Proof.Machine
end

