-- ==== Sys2Proof/Machine/Dispatch.lean ====
section
/-! DEFINITION. What each command does: one arm per constructor of `Instr`, one call of that command's meaning. -/

namespace Sys2Proof.Machine

/-- A command's effect on everything but the queue of waiting commands. -/
def exec (i : Instr) (s : State) : Host.Outcome State Fault Refusal :=
  match i with
  | .enrol h tool cls loc life => Sys2Proof.Machine.execEnrol h tool cls loc life s
  | .retire h tool => Sys2Proof.Machine.execRetire h tool s
  | .hold h tool => Sys2Proof.Machine.execHold h tool s
  | .releaseHold h tool regrind => Sys2Proof.Machine.execReleaseHold h tool regrind s
  | .moveBin h tool loc => Sys2Proof.Machine.execMoveBin h tool loc s
  | .queryTool h tool => Sys2Proof.Machine.execQueryTool h tool s
  | .findClass h cls start => Sys2Proof.Machine.execFindClass h cls start s
  | .defineClass h cls shape policy => Sys2Proof.Machine.execDefineClass h cls shape policy s
  | .queryClass h cls => Sys2Proof.Machine.execQueryClass h cls s
  | .deleteClass h cls => Sys2Proof.Machine.execDeleteClass h cls s
  | .stats h cls clear => Sys2Proof.Machine.execStats h cls clear s
  | .calGeometry h station values => Sys2Proof.Machine.execCalGeometry h station values s
  | .calCorrection h station values => Sys2Proof.Machine.execCalCorrection h station values s
  | .configureStation h station window => Sys2Proof.Machine.execConfigureStation h station window s
  | .queryStation h station => Sys2Proof.Machine.execQueryStation h station s
  | .holdByCalibration h station generation => Sys2Proof.Machine.execHoldByCalibration h station generation s
  | .gaugeBegin h tool => Sys2Proof.Machine.execGaugeBegin h tool s
  | .gaugePoint h z x => Sys2Proof.Machine.execGaugePoint h z x s
  | .gaugeEnd h temperature => Sys2Proof.Machine.execGaugeEnd h temperature s
  | .gaugeAbort h => Sys2Proof.Machine.execGaugeAbort h s
  | .issue h form => Sys2Proof.Machine.execIssue h form s
  | .cancel h ticket tag => Sys2Proof.Machine.execCancel h ticket tag s
  | .returnTool h tool loc => Sys2Proof.Machine.execReturnTool h tool loc s
  | .setIssueMode h on => Sys2Proof.Machine.execSetIssueMode h on s
  | .queryIssue h cls start => Sys2Proof.Machine.execQueryIssue h cls start s
  | .queryTicket h ticket => Sys2Proof.Machine.execQueryTicket h ticket s
  | .configureChannel h channel enabled openWindow takeWindow => Sys2Proof.Machine.execConfigureChannel h channel enabled openWindow takeWindow s
  | .clearChannel h channel => Sys2Proof.Machine.execClearChannel h channel s
  | .handover h ticket tag => Sys2Proof.Machine.execHandover h ticket tag s
  | .queryChannel h channel start => Sys2Proof.Machine.execQueryChannel h channel start s
  | .queryHandover h start => Sys2Proof.Machine.execQueryHandover h start s
  | .mount h tool pocket => Sys2Proof.Machine.execMount h tool pocket s
  | .dismount h pocket => Sys2Proof.Machine.execDismount h pocket s
  | .protect h pocket => Sys2Proof.Machine.execProtect h pocket s
  | .unprotect h pocket => Sys2Proof.Machine.execUnprotect h pocket s
  | .adjust h tool lengthDelta radiusDelta => Sys2Proof.Machine.execAdjust h tool lengthDelta radiusDelta s
  | .resendHandoff h machine pocket => Sys2Proof.Machine.execResendHandoff h machine pocket s
  | .queryPocket h machine pocket => Sys2Proof.Machine.execQueryPocket h machine pocket s
  | .storeProgram h program bytes => Sys2Proof.Machine.execStoreProgram h program bytes s
  | .queryProgram h program => Sys2Proof.Machine.execQueryProgram h program s
  | .renderTest h program tool offset => Sys2Proof.Machine.execRenderTest h program tool offset s
  | .usage h pocket amount => Sys2Proof.Machine.execUsage h pocket amount s
  | .setSweep h period => Sys2Proof.Machine.execSetSweep h period s
  | .setClient h client form => Sys2Proof.Machine.execSetClient h client form s
  | .queryClient h client => Sys2Proof.Machine.execQueryClient h client s
  | .attention h choice => Sys2Proof.Machine.execAttention h choice s
  | .setEnables h enables => Sys2Proof.Machine.execSetEnables h enables s
  | .restart h => Sys2Proof.Machine.execRestart h s
  | .wipe h => Sys2Proof.Machine.execWipe h s
  | .identify h => Sys2Proof.Machine.execIdentify h s
  | .malformedMessage words => Sys2Proof.Machine.execMalformedMessage words s
  | .messageRead => Sys2Proof.Machine.execMessageRead s
  | .opened channel => Sys2Proof.Machine.execOpened channel s
  | .closed channel => Sys2Proof.Machine.execClosed channel s
  | .openWindowExpiry channel => Sys2Proof.Machine.execOpenWindowExpiry channel s
  | .takeWindowExpiry channel => Sys2Proof.Machine.execTakeWindowExpiry channel s
  | .gaugeWindowExpiry station => Sys2Proof.Machine.execGaugeWindowExpiry station s
  | .sweep => Sys2Proof.Machine.execSweep s
  | .reset retain closedInputs => Sys2Proof.Machine.execReset retain closedInputs s
  | .pendingStart => Sys2Proof.Machine.execPendingStart s
  | .messageWordWritten word => Sys2Proof.Machine.execMessageWordWritten word s

end Sys2Proof.Machine
end

