-- ==== Sys2Proof/Safety.lean ====
section
/-! DEFINITION. The terms in which the statements speak: when the port takes a request at once, what the state is after
an answer, and the laws that every step keeps. -/

namespace Sys2Proof.Machine

/-! ### A request and its answer -/

/-- The port takes a message as soon as its last word is written: its inbound queue is empty, it has finished the request
taken before, no start is pending and at least 4 outbound places are free (R188). -/
abbrev State.portOpen (s : State) : Prop := s.port.inbound = [] ∧ s.port.mayTake = true

/-- The port is open and the sender passes the checks of the client number and of the role for this request (R189). -/
abbrev State.admits (s : State) (h : Header) (k : Kind) : Prop :=
  s.portOpen ∧ h.client.toNat ≤ 63 ∧ roleAllows (s.hall.client h.client.toNat).role k = true

/-- The state after a request that found the port open has been answered: the units are as `hall`, the response stands
at the tail of the outbound queue with the notices behind it, ready and MSG-AVAIL are asserted, ATTN and RELEASE follow
the units, and all else is as it was (R190). -/
def State.answered (s : State) (k : Kind) (h : Header) (code : Code) (body : List Word) (notices : List Notice)
    (hall : Hall) : State :=
  { s with
    hall := hall
    port := { s.port with
      outbound := s.port.outbound ++ .response k.code h.client h.tag code body :: notices.map .notice
      pins := ⟨true, true, attnLine hall, releaseLines hall⟩ } }

/-- The state after an event whose notices all find a place: the notices stand at the tail of the outbound queue. -/
def State.eventTaken (s : State) (notices : List Notice) (hall : Hall) : State :=
  { s with
    hall := hall
    port := { s.port with
      outbound := s.port.outbound ++ notices.map .notice
      pins := ⟨s.port.readyLine, !(s.port.outbound ++ notices.map OutMessage.notice).isEmpty, attnLine hall,
        releaseLines hall⟩ } }

/-- That many notices find a place in the outbound queue beside the one kept for a response. -/
abbrev State.roomFor (s : State) (n : Nat) : Prop := s.port.outbound.length + n + s.port.kept ≤ 32

/-- A tool number in range, found by the index, with its slot and record (R10). -/
abbrev State.holds (s : State) (tool : Word) (slot : Nat) (r : Record) : Prop :=
  1 ≤ tool.toNat ∧ tool.toNat ≤ 99999999 ∧ s.hall.index.get tool.toNat = some slot ∧
    s.hall.records.get slot = some r

/-- The commands one after another, stopping at a refusal. -/
def runAll : List Instr → State → Host.Outcome State Fault Refusal
  | [], s => .next s
  | c :: rest, s =>
    match exec c s with
    | .next t => runAll rest t
    | .fault f => .fault f
    | .refused r => .refused r

/-- A code that says the request was carried out (10.10): OK, QUEUED or PROMISED. Every other is a refusal. -/
def Code.carriedOut : Code → Bool
  | .ok => true
  | .queued => true
  | .promised => true
  | _ => false

/-! ### A fall and a rise of the usable count (R33 to R35) -/

/-- A class entry after its usable count has fallen by 1: the low mark is the comparison with the minimum stock. -/
def fallEntry (c : ClassEntry) : ClassEntry :=
  { c with usable := c.usable - 1, low := decide (c.usable - 1 < c.policy.minStock) }

/-- A class entry after its usable count has risen by 1. -/
def riseEntry (c : ClassEntry) : ClassEntry :=
  { c with usable := c.usable + 1, low := decide (c.usable + 1 < c.policy.minStock) }

/-- The fall sets the low mark: it was clear and is set. -/
def fallSetsLow (c : ClassEntry) : Bool := (fallEntry c).low && !c.low

/-- The LOW-STOCK notice of a fall that sets the low mark: to client 255, with the class, the usable count after the
fall and the minimum stock. -/
def fallNotices (cls : Nat) (c : ClassEntry) : List Notice :=
  if fallSetsLow c then
    [⟨.lowStock, 255#8, [natWord cls, natWord (c.usable - 1), natWord c.policy.minStock]⟩]
  else []

/-- The flags after a fall: LOW-STOCK is bit 3. -/
def fallFlags (c : ClassEntry) (flags : BitVec 7) : BitVec 7 := if fallSetsLow c then flags ||| 0x08#7 else flags

/-- No offer of a record of the class can promise it: the mode is not ONLINE, or no ticket of the class waits (R96). -/
abbrev State.noTaker (s : State) (cls : Nat) : Prop := s.hall.mode ≠ .online ∨ s.hall.waitQueues.list cls = []

/-! ### The law of the port -/

/-- Some words of a message have been written, but not the last its header names (R186). -/
def partlyWritten : List Word → Bool
  | [] => false
  | w :: rest => decide (rest.length < 1 + bodyLengthOf w)

/-- The inbound queue holds whole messages, of which the newest may be partly written (R186). -/
def inboundOk : List (List Word) → Bool
  | [] => true
  | [m] => oneMessage m || partlyWritten m
  | m :: n :: rest => oneMessage m && inboundOk (n :: rest)

/-- The oldest message is complete and the port may take it. -/
def Port.takeable (p : Port) : Bool :=
  match p.inbound with
  | [] => false
  | m :: _ => oneMessage m && p.mayTake

/-- The law of the port: at most 16 inbound messages, whole but for the newest; at most 32 outbound messages, the place
kept for a response counted among them; no message left untaken that may be taken; the reading stands within the head
message; no start is pending while a response is still to be placed; the lines as the queues, the flags and
the channels give them (R125, R186 to R188, R190, R195, R198). -/
structure PortLaw (s : State) : Prop where
  inboundPlaces : s.port.inbound.length ≤ 16
  inboundForm : inboundOk s.port.inbound = true
  outboundPlaces : s.port.outbound.length + s.port.kept ≤ 32
  nothingLeft : s.port.takeable = false
  reading : ∀ m ∈ s.port.outbound.head?, s.port.readCount < m.words.length
  noReading : s.port.outbound = [] → s.port.readCount = 0
  serving : s.port.serving.isSome = true → s.port.start = .none
  lines : s.port.pins = ⟨s.port.readyLine, !s.port.outbound.isEmpty, attnLine s.hall, releaseLines s.hall⟩

/-! ### Laws of the tables -/

/-- Every table is in its canonical form: keys strictly rising, no empty list and no client of role NONE listed, so that
equal tables are equal data. -/
structure TablesLaw (s : Hall) : Prop where
  records : s.records.wf
  index : s.index.wf
  chains : s.chains.wf
  classes : s.classes.wf
  tickets : s.tickets.wf
  waitQueues : s.waitQueues.wf
  bindings : s.bindings.wf
  programs : s.programs.wf
  clients : s.clients.wf
  chainsListed : ∀ e ∈ s.chains, e.2 ≠ []
  waitQueuesListed : ∀ e ∈ s.waitQueues, e.2 ≠ []
  clientsListed : ∀ e ∈ s.clients, e.2 ≠ .none

/-- The law of the client table (R191): client 0 is a TOOLROOM client, no entry lies above 63, and no two entries name
one station. -/
structure ClientLaw (s : Hall) : Prop where
  toolroom : s.client 0 = .toolroom
  numbers : ∀ n, (s.clients.get n).isSome = true → n ≤ 63
  stations : ∀ m n, (s.client m).station.isSome = true → (s.client m).station = (s.client n).station → m = n

/-- The law of the tool-number index (R10): it holds the tool number of each live record, with its slot, and no other. -/
def IndexLaw (s : Hall) : Prop :=
  ∀ tool slot, s.index.get tool = some slot ↔ ∃ r, s.records.get slot = some r ∧ r.tool = tool

/-- The capacities (R9, R84, R127, R145): slots, tickets, binding entries and programs lie within the part's tables. -/
structure CapacityLaw (s : Hall) : Prop where
  records : ∀ slot, (s.records.get slot).isSome = true → slot < 4096
  tickets : ∀ n, (s.tickets.get n).isSome = true → n < 128
  bindings : ∀ e, (s.bindings.get e).isSome = true → e < 1024
  programs : ∀ p, (s.programs.get p).isSome = true → p < 16

/-! ### The law of the hall

What ties the units' tables to one another. Each part is an `abbrev` over the entries listed, so that Lean decides it
for a state written out. -/

/-- Every live record and every ticket is of a defined class, whose full life is above 0 (R25, R27). -/
abbrev ClassesLaw (s : Hall) : Prop :=
  (∀ e ∈ s.classes, 1 ≤ e.2.shape.fullLife) ∧
  (∀ e ∈ s.records, s.classes.has e.2.cls = true) ∧
  (∀ e ∈ s.tickets, s.classes.has e.2.cls = true)

/-- A tool without life is OUT, MOUNTED or HELD WORN (R8, R16, R102, R170). -/
abbrev LifeLaw (s : Hall) : Prop :=
  ∀ e ∈ s.records, e.2.life = 0 → e.2.status = .out ∨ e.2.status = .mounted ∨ e.2.status = .held .worn

/-- A chain holds exactly the READY records of its class, each once, by life ascending and then by tool number ascending
(R7, R11). -/
abbrev ChainLaw (s : Hall) : Prop :=
  (∀ e ∈ s.chains, e.2.Pairwise fun a b => ∀ ra ∈ s.records.get a, ∀ rb ∈ s.records.get b,
    ra.life < rb.life ∨ (ra.life = rb.life ∧ ra.tool < rb.tool)) ∧
  (∀ e ∈ s.chains, ∀ slot ∈ e.2, ∃ r ∈ s.records.get slot, r.status = .ready ∧ r.cls = e.1) ∧
  (∀ e ∈ s.records, e.2.status = .ready → e.1 ∈ s.chains.list e.2.cls)

/-- The usable count of a class is the number of its READY, PROMISED, OUT and MOUNTED records with life remaining, and
its low mark says whether that is below the minimum stock (R8, R33, R34). -/
abbrev UsableLaw (s : Hall) : Prop :=
  ∀ e ∈ s.classes,
    e.2.usable = s.records.count (fun r => decide (r.cls = e.1 ∧ 0 < r.life ∧
      (r.status = .ready ∨ r.status = .promised ∨ r.status = .out ∨ r.status = .mounted))) ∧
    e.2.low = decide (e.2.usable < e.2.policy.minStock)

/-- A WAITING ticket stands in its class's wait queue and nowhere else; a ticket from PROMISED on stands in one channel
queue or in the handover list; none stands twice (R85, R86). A channel queue holds tickets whose tools lie in that
channel's drawer, while the channel is enabled; the handover list holds PROMISED tickets, whose tools lie in no enabled
channel's drawer (R95, R109, R110, R121). -/
abbrev CollectionLaw (s : Hall) : Prop :=
  (∀ e ∈ s.waitQueues, e.2.Nodup ∧
    ∀ n ∈ e.2, ∃ t ∈ s.tickets.get n, t.status = TicketStatus.waiting ∧ t.cls = e.1) ∧
  (∀ e ∈ s.tickets, e.2.status = TicketStatus.waiting → e.1 ∈ s.waitQueues.list e.2.cls) ∧
  (∀ e ∈ s.tickets, e.2.status ≠ TicketStatus.waiting → e.1 ∈ s.handover ∨ ∃ c, e.1 ∈ (s.channel c).queue) ∧
  s.handover.Nodup ∧ (∀ c, (s.channel c).queue.Nodup) ∧
  (∀ c, ∀ n ∈ (s.channel c).queue, n ∉ s.handover ∧ ∀ d, n ∈ (s.channel d).queue → d = c) ∧
  (∀ c, ∀ n ∈ (s.channel c).queue, (s.channel c).enabled = true ∧ ∃ t ∈ s.tickets.get n, ∃ slot ∈ t.status.slot,
    ∃ r ∈ s.records.get slot, ∃ bin, r.location = .drawer c bin) ∧
  (∀ n ∈ s.handover, ∃ t ∈ s.tickets.get n, ∃ slot ∈ t.status.slot, t.status = .promised slot ∧
    ∃ r ∈ s.records.get slot, ∀ c bin, r.location = .drawer c bin → (s.channel c).enabled = false)

/-- From PROMISED on a ticket holds the slot of a PROMISED record of its class, no two tickets hold one slot, and every
PROMISED record is held by a ticket (R82, R94). -/
abbrev PromiseLaw (s : Hall) : Prop :=
  (∀ e ∈ s.tickets, ∀ slot ∈ e.2.status.slot, ∃ r ∈ s.records.get slot, r.status = .promised ∧ r.cls = e.2.cls) ∧
  (∀ e ∈ s.tickets, ∀ f ∈ s.tickets, e.2.status.slot.isSome = true → e.2.status.slot = f.2.status.slot → e.1 = f.1) ∧
  (∀ e ∈ s.records, e.2.status = .promised → ∃ f ∈ s.tickets, f.2.status.slot = some e.1)

/-- The head of a RELEASED channel's queue is RELEASED and that of an OPENED or AJAR channel's is OPENED; no other ticket
is either (R111, R112, R115). A channel is OFF exactly while it is not enabled (R108, R109). -/
abbrev CycleLaw (s : Hall) : Prop :=
  (∀ c, (s.channel c).state = .released →
    ∃ n ∈ (s.channel c).queue.head?, ∃ t ∈ s.tickets.get n, ∃ slot ∈ t.status.slot, t.status = .released slot) ∧
  (∀ c, (s.channel c).state = .opened ∨ (s.channel c).state = .ajar →
    ∃ n ∈ (s.channel c).queue.head?, ∃ t ∈ s.tickets.get n, ∃ slot ∈ t.status.slot, t.status = .opened slot) ∧
  (∀ e ∈ s.tickets, ∀ slot ∈ e.2.status.slot,
    (e.2.status = .released slot → ∃ c, (s.channel c).state = .released ∧ (s.channel c).queue.head? = some e.1) ∧
    (e.2.status = .opened slot → ∃ c, ((s.channel c).state = .opened ∨ (s.channel c).state = .ajar) ∧
      (s.channel c).queue.head? = some e.1)) ∧
  (∀ c, (s.channel c).state = .off ↔ (s.channel c).enabled = false)

/-- The tickets of a list stand in band order: STOP before PLAN before STOCK. -/
abbrev BandsRise (tickets : Table Ticket) (queue : List Nat) : Prop :=
  queue.Pairwise fun a b => ∀ ta ∈ tickets.get a, ∀ tb ∈ tickets.get b,
    ta.band = .stop ∨ tb.band = .stock ∨ ta.band = tb.band

/-- Wait queues and channel queues stand in band order; the head of a drawer cycle stands first whatever its band (R86,
R110). -/
abbrev BandLaw (s : Hall) : Prop :=
  (∀ e ∈ s.waitQueues, BandsRise s.tickets e.2) ∧
  (∀ c, BandsRise s.tickets (s.channel c).queue.tail) ∧
  (∀ c, (s.channel c).state = .idle ∨ (s.channel c).state = .forced → BandsRise s.tickets (s.channel c).queue)

/-- A binding joins a machine client's pocket to a MOUNTED record located there, no two join one pocket, and every
MOUNTED record has one (R2, R127, R141). -/
abbrev BindingLaw (s : Hall) : Prop :=
  (∀ e ∈ s.bindings, (s.client e.2.client).role = .machine ∧
    ∃ r ∈ s.records.get e.2.slot, r.status = .mounted ∧ r.location = .pocket e.2.client e.2.pocket) ∧
  (∀ e ∈ s.bindings, ∀ f ∈ s.bindings, e.2.client = f.2.client → e.2.pocket = f.2.pocket → e.1 = f.1) ∧
  (∀ e ∈ s.records, e.2.status = .mounted → ∃ f ∈ s.bindings, f.2.slot = e.1)

/-- The slot of the tool that a session measures. -/
def SessionKind.slot : SessionKind → Option Nat
  | .tool slot => some slot
  | .master => none

/-- A record is GAUGING. -/
def RecordStatus.isGauging : RecordStatus → Bool
  | .gauging _ => true
  | _ => false

/-- A station is GAUGING exactly while it has a session; a tool session belongs to a GAUGING record and was entered from
READY, no two to one record, and every GAUGING record has one; a station past UNCAL has an active set; a pending set is
staged whole, at a GAUGING station (R43, R44, R51, R60, R63). -/
abbrev SessionLaw (s : Hall) : Prop :=
  (∀ n, (s.station n).session.isSome = (s.station n).state.isGauging) ∧
  (∀ n, ∀ x ∈ (s.station n).session, ∀ slot ∈ x.kind.slot, (s.station n).state = .gauging .ready ∧
    ∃ r ∈ s.records.get slot, r.status.isGauging = true) ∧
  (∀ m n, ∀ x ∈ (s.station m).session, ∀ y ∈ (s.station n).session, x.kind.slot.isSome = true →
    x.kind.slot = y.kind.slot → m = n) ∧
  (∀ e ∈ s.records, e.2.status.isGauging = true → ∃ n, ∃ x ∈ (s.station n).session, x.kind.slot = some e.1) ∧
  (∀ n, (s.station n).state ≠ .uncal → (s.station n).active.isSome = true) ∧
  (∀ n, (s.station n).pending = true → (s.station n).state.isGauging = true ∧
    (s.station n).stagedGeometry.isSome = true ∧ (s.station n).stagedCorrection.isSome = true)

/-- The law of the hall. -/
structure HallLaw (s : Hall) : Prop where
  tables : TablesLaw s
  index : IndexLaw s
  classes : ClassesLaw s
  life : LifeLaw s
  chains : ChainLaw s
  usable : UsableLaw s
  collections : CollectionLaw s
  promises : PromiseLaw s
  cycles : CycleLaw s
  bands : BandLaw s
  bindings : BindingLaw s
  sessions : SessionLaw s

end Sys2Proof.Machine
end

