-- ==== Sys2Proof/Certificates/Slice0/Obligations.lean ====
section
/-! DEFINITION. The statements for the provers. A statement about a request says it of a request that finds the port
open (`State.admits`); its right side is the whole next state (`State.answered`), so what it does not name is
unchanged. -/

open Sys2Proof Sys2Proof.Machine

/-! ### The machine -/

/-- Model (log 2, log 10): the command at the front of the queue runs on the state with the queue's rest. -/
def Obligations.StepRunsFrontCommand : Prop :=
  ∀ (c : Instr) (rest : List Instr) (s : State),
    step { s with pending := c :: rest } = exec c { s with pending := rest }

/-- Model (log 2): on an empty queue with no start due and no request in service a second passes, and every running
window and the sweep timer count it. With no timer at its end nothing else changes but the model's counter. Else the
windows that have run out, by the state of their station or channel, and the sweep whose interval is full bring their
events: each is taken once and whole, on what the others leave (R61, R108, R175, R201, R202; their order is left open,
log 4). -/
def Obligations.SecondCountsRunningTimers : Prop :=
  ∀ s : State, s.pending = [] → s.port.start ≠ .due → s.port.serving = none →
    let counted : State := { s with hall := { s.hall with
      stations := mapBank (fun x => { x with session := x.session.map fun u => { u with timer := u.timer - 1 } })
        s.hall.stations
      channels := mapBank (fun x => { x with timer := x.timer.map fun t => t - 1 }) s.hall.channels
      freeIndex := s.hall.freeIndex + 1
      sweep := { s.hall.sweep with count := s.hall.sweep.count + 1 } } }
    let ends := fun (x : ChannelState) (c : Fin 16) =>
      decide ((s.hall.channel c).state = x ∧ ∃ t ∈ (s.hall.channel c).timer, t ≤ 1)
    let due : List Instr :=
      ((List.finRange 4).filter fun n => decide (∃ u ∈ (s.hall.station n).session, u.timer ≤ 1)).map
          .gaugeWindowExpiry ++
        ((List.finRange 16).filter (ends .released)).map .openWindowExpiry ++
        ((List.finRange 16).filter (ends .opened)).map .takeWindowExpiry ++
        (if s.hall.sweep.length ≤ s.hall.sweep.count + 1 then [.sweep] else [])
    (due = [] → step s = .next { counted with port := { s.port with
      pins := ⟨s.port.readyLine, !s.port.outbound.isEmpty, attnLine s.hall, releaseLines s.hall⟩ } }) ∧
    (due ≠ [] → ∃ order : List Instr, order.Perm due ∧ step s = runAll order counted)

/-! ### Laws every step keeps -/

/-- The law of the port is kept by every step. -/
def Obligations.EveryStepKeepsPortLaw : Prop :=
  ∀ s t : State, PortLaw s → step s = .next t → PortLaw t

/-- The canonical form of every table is kept by every step. -/
def Obligations.EveryStepKeepsTablesCanonical : Prop :=
  ∀ s t : State, TablesLaw s.hall → step s = .next t → TablesLaw t.hall

/-- Client 0 stays TOOLROOM, and no two PRESETTER entries come to name one station (R191). -/
def Obligations.EveryStepKeepsClientLaw : Prop :=
  ∀ s t : State, ClientLaw s.hall → step s = .next t → ClientLaw t.hall

/-- The tool-number index goes on holding exactly the live records' numbers (R10). Slots, tickets, binding entries and
programs stay within the part's capacities (R9, R84, R127, R145). -/
def Obligations.EveryStepKeepsIndexAndCapacities : Prop :=
  (∀ s t : State, TablesLaw s.hall → IndexLaw s.hall → step s = .next t → IndexLaw t.hall) ∧
  (∀ s t : State, CapacityLaw s.hall → step s = .next t → CapacityLaw t.hall)

/-- The state after reset meets every law above. -/
def Obligations.ResetMeetsEveryLaw : Prop :=
  PortLaw State.reset ∧ TablesLaw State.reset.hall ∧ ClientLaw State.reset.hall ∧ IndexLaw State.reset.hall ∧
    CapacityLaw State.reset.hall ∧ HallLaw State.reset.hall

/-! ### Messages -/

/-- The words of a request's message spell the request again: the header its type, kind, client and length, the body
every operand at every value (R203, R204, R207; the order of a MACHINE's fields in SET-CLIENT and of the fields of MOUNT,
and the bit that means on in SET-ISSUE-MODE, are the model's choice, log 18, log 30). -/
def Obligations.DecodingReadsEncodedRequest : Prop :=
  ∀ (i : Instr) (k : Kind) (h : Header), i.kind = some k → i.header = some h → i.wellFormed = true →
    (∀ hd p bytes, i = .storeProgram hd p bytes → kindBytesOk bytes = true) →
    ∃ w0, encode i = w0 :: h.tag :: bodyWords i ∧ typeOf w0 = 1 ∧ clientOf w0 = h.client ∧
      Kind.ofCode (kindCodeOf w0) = some k ∧ bodyLengthOf w0 = (bodyWords i).length ∧
      decodeBody k ⟨clientOf w0, h.tag⟩ (bodyWords i) = some i

/-- Presenting a request and writing its words one after another come to the same, when the port is open: with the last
word the message is taken, its checks and its changes of state are made and nothing is placed yet, and on an empty queue
the next step places its response and notices, as the request command does at once (R186, R188, R201; that the placing
is a separate step there is the model's choice, log 3). -/
def Obligations.WritingWordsEqualsPresenting : Prop :=
  ∀ (i : Instr) (k : Kind) (h : Header) (s : State), i.kind = some k → i.header = some h → i.wellFormed = true →
    s.portOpen →
    ∃ t, runAll ((encode i).map .messageWordWritten) s = .next t ∧
      t = (let r := answerRequest k h i s.hall
        { s with
          hall := r.hall,
          port := { s.port with
            serving := some ⟨k.code, h.client, h.tag, r.code, r.body, r.notices⟩,
            pins := ⟨true, !s.port.outbound.isEmpty, attnLine r.hall, releaseLines r.hall⟩ } }) ∧
      step { t with pending := [] } = exec i { s with pending := [] }

/-- Every request the port takes is answered by exactly one response, with the kind code, client number and tag of the
request, and what follows it in the queue are notices (R189, R190). -/
def Obligations.EveryRequestGetsOneResponse : Prop :=
  ∀ (i : Instr) (k : Kind) (h : Header) (s : State), i.kind = some k → i.header = some h → i.wellFormed = true →
    s.portOpen →
    ∃ t code body notices, exec i s = .next t ∧ t.pending = s.pending ∧ t.port.inbound = [] ∧
      t.port.outbound =
        s.port.outbound ++ .response k.code h.client h.tag code body :: List.map OutMessage.notice notices ∧
      t.port.outbound.length ≤ 32

/-- A refused request has no effect on any state: its response is all that changes (Refused, spec/00_scope.md). -/
def Obligations.RefusalChangesNothing : Prop :=
  ∀ (i : Instr) (k : Kind) (h : Header) (s : State), i.kind = some k → i.header = some h → i.wellFormed = true →
    s.portOpen → (answerRequest k h i s.hall).code.carriedOut = false →
    exec i s = .next (s.answered k h (answerRequest k h i s.hall).code (answerRequest k h i s.hall).body [] s.hall)

/-- Checks 1 and 2 of R189: a client number above 63 is MALFORMED, and a role the summary of 10.9 does not allow is
NOT-PERMITTED, role NONE for every request. The summary of 10.9 is the list of requests that each role may send. -/
def Obligations.SenderIsCheckedFirst : Prop :=
  (∀ (i : Instr) (k : Kind) (h : Header) (s : State), i.kind = some k → i.header = some h → i.wellFormed = true →
    s.portOpen →
    (63 < h.client.toNat → exec i s = .next (s.answered k h .malformed [] [] s.hall)) ∧
    (h.client.toNat ≤ 63 → roleAllows (s.hall.client h.client.toNat).role k = false →
      exec i s = .next (s.answered k h .notPermitted [] [] s.hall)) ∧
    roleAllows .none k = false) ∧
  (∀ k : Kind,
    (roleAllows .toolroom k = true ↔ k ∈ [.enrol, .retire, .hold, .releaseHold, .moveBin, .queryTool, .findClass,
      .defineClass, .deleteClass, .stats, .queryClass, .calGeometry, .calCorrection, .configureStation,
      .holdByCalibration, .queryStation, .issue, .cancel, .setIssueMode, .queryIssue, .queryTicket, .configureChannel,
      .clearChannel, .queryChannel, .queryHandover, .adjust, .resendHandoff, .queryPocket, .storeProgram, .renderTest,
      .queryProgram, .setSweep, .setClient, .attention, .setEnables, .restart, .wipe, .queryClient, .identify]) ∧
    (roleAllows .presetter k = true ↔ k ∈ [.enrol, .queryTool, .findClass, .queryClass, .calGeometry, .calCorrection,
      .queryStation, .gaugeBegin, .gaugePoint, .gaugeEnd, .gaugeAbort, .queryIssue, .queryTicket, .queryChannel,
      .queryHandover, .queryProgram, .queryClient, .identify]) ∧
    (roleAllows .crib k = true ↔ k ∈ [.moveBin, .queryTool, .findClass, .queryClass, .queryStation, .issue, .cancel,
      .returnTool, .queryIssue, .queryTicket, .handover, .queryChannel, .queryHandover, .queryProgram, .queryClient,
      .identify]) ∧
    (roleAllows .machine k = true ↔ k ∈ [.queryTool, .findClass, .queryClass, .queryStation, .issue, .cancel,
      .queryIssue, .queryTicket, .queryChannel, .queryHandover, .mount, .dismount, .protect, .unprotect,
      .resendHandoff, .queryPocket, .queryProgram, .usage, .queryClient, .identify]))

/-- A message whose type is not request, whose kind code names no request, whose client number is above 63 or whose body
length is above 62 is answered MALFORMED with its kind code, client and tag as received, and so is one of an allowed
kind whose body has the wrong form; nothing else changes (R189). The model refuses a command that no message can carry:
a program of more than 244 bytes, or words that are not one whole message (R186, R207; log 16). -/
def Obligations.MalformedMessageIsAnswered : Prop :=
  (∀ (w0 w1 : Word) (body : List Word) (s : State), s.portOpen → body.length = bodyLengthOf w0 →
      (typeOf w0 ≠ 1 ∨ 63 < (clientOf w0).toNat ∨ 62 < bodyLengthOf w0 ∨ Kind.ofCode (kindCodeOf w0) = none ∨
        ∃ k, Kind.ofCode (kindCodeOf w0) = some k ∧ roleAllows (s.hall.client (clientOf w0).toNat).role k = true ∧
          decodeBody k ⟨clientOf w0, w1⟩ body = none) →
      exec (.malformedMessage (w0 :: w1 :: body)) s = .next
        { s with port := { s.port with
            outbound := s.port.outbound ++ [.response (kindCodeOf w0) (clientOf w0) w1 .malformed []],
            pins := ⟨true, true, attnLine s.hall, releaseLines s.hall⟩ } }) ∧
  ((∀ h p bytes s, 244 < bytes.length → exec (.storeProgram h p bytes) s = .refused .illFormed) ∧
    (∀ words s, oneMessage words = false → exec (.malformedMessage words) s = .refused .illFormed))

/-- A word written (R186): the first takes a place, and a later one joins the partly written message while it is not yet
complete. With ready withheld a word has no effect (the model's choice, log 3). -/
def Obligations.WordWrittenJoinsInboundQueue : Prop :=
  ∀ (w : Word) (s : State),
    (s.port.inbound = [] → exec (.messageWordWritten w) s =
      .next { s with port := { s.port with
        inbound := [[w]],
        pins := ⟨true, !s.port.outbound.isEmpty, attnLine s.hall, releaseLines s.hall⟩ } }) ∧
    (∀ w0 words, s.port.inbound = [w0 :: words] → words.length + 1 < 1 + bodyLengthOf w0 →
      exec (.messageWordWritten w) s =
        .next { s with port := { s.port with
          inbound := [w0 :: words ++ [w]],
          pins := ⟨true, !s.port.outbound.isEmpty, attnLine s.hall, releaseLines s.hall⟩ } }) ∧
    (s.port.readyLine = false → exec (.messageWordWritten w) s = .next { s with port := { s.port with
      pins := ⟨false, !s.port.outbound.isEmpty, attnLine s.hall, releaseLines s.hall⟩ } })

/-- A read gives the next word of the head message: a word before the last changes nothing but the reading, and with the
last the message leaves the queue. With no message waiting a read gives 0 and removes nothing (R187, R203; log 7). When
the reading frees the fourth place the port takes the oldest complete message: its checks and its changes of state are
made, and then its response takes its place behind the messages that wait, with its notices behind it as far as the queue
holds them (R188, R190; that the placing is the next step on an empty queue is the model's choice, log 3). -/
def Obligations.MessageReadFreesItsPlace : Prop :=
  (∀ s : State, s.port.outbound = [] → exec .messageRead s = .next { s with port := { s.port with
      readOut := 0,
      pins := ⟨s.port.readyLine, false, attnLine s.hall, releaseLines s.hall⟩ } }) ∧
  (∀ (s : State) (m : OutMessage) (rest : List OutMessage) (w : Word), s.port.outbound = m :: rest →
      m.words[s.port.readCount]? = some w →
      (s.port.readCount + 1 < m.words.length → exec .messageRead s = .next { s with port := { s.port with
        readCount := s.port.readCount + 1,
        readOut := w,
        pins := ⟨s.port.readyLine, true, attnLine s.hall, releaseLines s.hall⟩ } }) ∧
      (s.port.readCount + 1 = m.words.length → s.port.inbound = [] → s.port.start = .none →
        exec .messageRead s = .next { s with port := { s.port with
          outbound := rest,
          readCount := 0,
          readOut := w,
          pins := ⟨true, !rest.isEmpty, attnLine s.hall, releaseLines s.hall⟩ } })) ∧
  (∀ (s : State) (m : OutMessage) (rest : List OutMessage) (w w0 w1 : Word) (body : List Word)
      (later : List (List Word)),
      s.port.outbound = m :: rest → rest.length = 28 → m.words[s.port.readCount]? = some w →
      s.port.readCount + 1 = m.words.length → s.port.start = .none → s.port.serving = none →
      s.port.inbound = (w0 :: w1 :: body) :: later → body.length = bodyLengthOf w0 →
      let r := answerWords w0 w1 body s.hall
      ∃ t u, exec .messageRead s = .next t ∧ t.hall = r.hall ∧ t.port.readOut = w ∧
        t.port.outbound = rest ∧ t.port.inbound = later ∧
        t.port.serving = some ⟨kindCodeOf w0, clientOf w0, w1, r.code, r.body, r.notices⟩ ∧
        step { t with pending := [] } = .next u ∧ u.port.serving = none ∧ u.port.inbound = later ∧
        u.port.outbound = (rest ++ .response (kindCodeOf w0) (clientOf w0) w1 r.code r.body ::
          List.map OutMessage.notice r.notices).take 32 ∧
        u.hall = if r.notices.length ≤ 3 then r.hall else setFlag .overrun r.hall)

/-- A notice takes the next place of the queue. With 32 messages waiting it is dropped, OVERRUN is set and nothing else
changes; so is one that finds free only the place kept for the response of a request in service (R188, R190). -/
def Obligations.NoticeDroppedWhenQueueFull : Prop :=
  ∀ (s : State) (n : Notice),
    let placed := { s with port := { s.port with outbound := s.port.outbound ++ [.notice n] } }
    let dropped := { s with hall := setFlag .overrun s.hall }
    (s.port.serving = none →
      (s.port.outbound.length < 32 → placeNotice s n = placed) ∧
      (32 ≤ s.port.outbound.length → placeNotice s n = dropped)) ∧
    (∀ a, s.port.serving = some a →
      (s.port.outbound.length < 31 → placeNotice s n = placed) ∧
      (31 ≤ s.port.outbound.length → placeNotice s n = dropped))

/-! ### Starts and the port's own requests (chapter 10) -/

/-- RESTART is answered OK and a start is pending; reading the last word of its response makes the start due, and
PENDING_START then empties both queues and leaves the units as a warm start does; with none due it has no effect (R198).
A request that finds a start pending, or another request in service, is not taken: its words wait and no unit changes
(R188). That the port data lines read 0 after the start is the model's choice (log 7). -/
def Obligations.RestartWaitsForItsResponse : Prop :=
  ((∀ (h : Header) (s : State), s.admits h .restart → exec (.restart h) s = .next
      { s with port := { s.port with
        start := .pending,
        outbound := s.port.outbound ++ [.response 0x74#8 h.client h.tag .ok []],
        pins := ⟨true, true, attnLine s.hall, releaseLines s.hall⟩ } }) ∧
    (∀ (s : State) (client : Byte) (tag w : Word) (body : List Word) (rest : List OutMessage),
      s.port.start = .pending → s.port.outbound = .response 0x74#8 client tag .ok body :: rest →
      (OutMessage.response 0x74#8 client tag .ok body).words[s.port.readCount]? = some w →
      s.port.readCount + 1 = (OutMessage.response 0x74#8 client tag .ok body).words.length →
      exec .messageRead s = .next { s with port := { s.port with
        start := .due,
        outbound := rest,
        readCount := 0,
        readOut := w,
        pins := ⟨s.port.readyLine, !rest.isEmpty, attnLine s.hall, releaseLines s.hall⟩ } }) ∧
    (∀ s : State, s.port.start = .due → exec .pendingStart s = .next
      { s with
        hall := warmStart .restart s.hall,
        port := { s.port with
          inbound := [], outbound := [], readCount := 0, serving := none, start := .none, readOut := 0,
          pins := ⟨true, false, attnLine (warmStart .restart s.hall), releaseLines (warmStart .restart s.hall)⟩ } }) ∧
    (∀ s : State, s.port.start ≠ .due → exec .pendingStart s = .next (drivePins s))) ∧
  (∀ (i : Instr) (k : Kind) (h : Header) (s : State), i.kind = some k → i.header = some h → i.wellFormed = true →
      s.port.start ≠ .none ∨ s.port.serving ≠ none → s.port.inbound = [] →
      ∃ t, exec i s = .next t ∧ t.hall = s.hall ∧ t.port.outbound = s.port.outbound ∧
        t.port.serving = s.port.serving ∧ t.port.inbound = [encode i])

/-- A cold start empties every table and queue and sets the configuration to its cold values, from any state, with each
drawer level as its CLOSED input reads (R23, R40, R59, R81, R106, R126, R144, R165, R184, R191, R195, R197). -/
def Obligations.ColdStartEmptiesThePart : Prop :=
  ∀ (inputs : BitVec 16) (s : State), ∃ t, exec (.reset false inputs) s = .next t ∧
    t.hall.records = [] ∧ t.hall.index = [] ∧ t.hall.chains = [] ∧ t.hall.classes = [] ∧ t.hall.tickets = [] ∧
    t.hall.waitQueues = [] ∧ t.hall.handover = [] ∧ t.hall.bindings = [] ∧ t.hall.programs = [] ∧
    (∀ n, t.hall.station n = ⟨.uncal, 600, none, 0, none, none, false, none⟩) ∧
    (∀ c, t.hall.channel c =
      ⟨.off, levelOf (inputs.getLsbD c.val), levelOf (inputs.getLsbD c.val), false, 60, 120, none, []⟩) ∧
    t.hall.mode = .online ∧ t.hall.sweep = ⟨60, 60, 0⟩ ∧ t.hall.clients = [(0, .toolroom)] ∧
    t.hall.flags = 0x40#7 ∧ t.hall.enables = 0x7f#7 ∧ t.hall.startKind = .cold ∧ t.hall.startCause = .retain ∧
    t.port.inbound = [] ∧ t.port.outbound = [] ∧ t.port.readCount = 0 ∧ t.port.serving = none ∧
    t.port.start = .none ∧ t.port.pins = ⟨true, false, true, Vector.replicate 16 false⟩ ∧ t.pending = s.pending

/-- A warm start at reset keeps what retained memory holds and loses tickets, sessions, staged calibration and queues. A
GAUGING record returns to its resume state with its reason; a PROMISED one goes to READY, or to HELD AUDIT when its
opened mark is set, which is cleared; every other record is kept. Each chain is rebuilt from the READY records of its
class by life and tool number, and the index from the live records; usable counts and low marks are recomputed. Channels
keep their windows and choice and take their level from the line. Of the flags only COLD-START is kept, and CHANNEL-FAULT
is set for an enabled drawer that reads open (R22, R39, R58, R105, R108, R125, R143, R165, R184, R195, R197, R200). -/
def Obligations.WarmStartKeepsRetainedMemory : Prop :=
  ∀ (inputs : BitVec 16) (s : State), ∃ t, exec (.reset true inputs) s = .next t ∧
    (∀ slot, s.hall.records.get slot = none → t.hall.records.get slot = none) ∧
    (∀ slot r, s.hall.records.get slot = some r →
      (r.status = .gauging .new → t.hall.records.get slot = some { r with status := .new }) ∧
      (r.status = .gauging .ready → t.hall.records.get slot = some { r with status := .ready }) ∧
      (∀ reason, r.status = .gauging (.held reason) →
        t.hall.records.get slot = some { r with status := .held reason }) ∧
      (r.status = .promised → r.opened = false →
        t.hall.records.get slot = some { r with status := .ready, opened := false }) ∧
      (r.status = .promised → r.opened = true →
        t.hall.records.get slot = some { r with status := .held .audit, opened := false }) ∧
      (r.status.isGauging = false → r.status ≠ .promised → t.hall.records.get slot = some r)) ∧
    (TablesLaw s.hall → IndexLaw s.hall →
      (∀ cls slot, slot ∈ t.hall.chains.list cls ↔
        ∃ r, t.hall.records.get slot = some r ∧ r.status = .ready ∧ r.cls = cls) ∧
      (∀ cls, (t.hall.chains.list cls).Pairwise fun a b =>
        ∀ ra rb, t.hall.records.get a = some ra → t.hall.records.get b = some rb →
          ra.life < rb.life ∨ (ra.life = rb.life ∧ ra.tool < rb.tool)) ∧
      (∀ tool slot, t.hall.index.get tool = some slot ↔ ∃ r, t.hall.records.get slot = some r ∧ r.tool = tool)) ∧
    t.hall.bindings = s.hall.bindings ∧ t.hall.programs = s.hall.programs ∧ t.hall.clients = s.hall.clients ∧
    t.hall.enables = s.hall.enables ∧ t.hall.tickets = [] ∧ t.hall.waitQueues = [] ∧ t.hall.handover = [] ∧
    t.hall.mode = (if s.hall.mode = .draining then .offline else s.hall.mode) ∧
    (∀ n, t.hall.station n = { s.hall.station n with
      state := (match (s.hall.station n).state with | .gauging e => e.state | st => st),
      stagedGeometry := none, stagedCorrection := none, pending := false, session := none }) ∧
    (∀ c, let level := if inputs.getLsbD c.val then DrawerLevel.shut else DrawerLevel.open
      t.hall.channel c = { s.hall.channel c with
        state := (if (s.hall.channel c).enabled then
          (if inputs.getLsbD c.val then .idle else .forced) else .off),
        level := level, filter := level, timer := none, queue := [] }) ∧
    (∀ cls, s.hall.classes.get cls = none → t.hall.classes.get cls = none) ∧
    (∀ cls c, s.hall.classes.get cls = some c → ∃ c', t.hall.classes.get cls = some c' ∧ c'.shape = c.shape ∧
      c'.policy = c.policy ∧ c'.issues = c.issues ∧ c'.rejects = c.rejects ∧
      c'.usable = t.hall.records.count (fun r => decide (r.cls = cls ∧ 0 < r.life ∧
        (r.status = .ready ∨ r.status = .promised ∨ r.status = .out ∨ r.status = .mounted))) ∧
      c'.low = decide (c'.usable < c.policy.minStock)) ∧
    t.hall.sweep = ⟨s.hall.sweep.period, s.hall.sweep.period, 0⟩ ∧
    t.hall.flags.getLsbD 6 = s.hall.flags.getLsbD 6 ∧
    (t.hall.flags.getLsbD 1 = true ↔ ∃ c, (s.hall.channel c).enabled = true ∧ inputs.getLsbD c.val = false) ∧
    (∀ i, i < 6 → i ≠ 1 → t.hall.flags.getLsbD i = false) ∧
    t.hall.startKind = .warm ∧ t.hall.startCause = .retain ∧ t.pending = s.pending ∧
    t.port.inbound = [] ∧ t.port.outbound = [] ∧ t.port.readCount = 0 ∧ t.port.serving = none ∧
    t.port.start = .none ∧
    t.port.pins = ⟨true, false, decide (t.hall.flags &&& t.hall.enables ≠ 0#7), Vector.replicate 16 false⟩

/-- SET-CLIENT of another client than 0 by a valid form, when no other client has the station and a change of role or
station finds the client free of work: the entry is as stored, and the response says whether the role changed (R192,
R193; the words of the entry in it, the role and its fields without the client number, are the model's choice, log 17).
What it writes is what the client table gives afterwards, for that client and no other, with the severity clamped to 1 to
255. It is refused by the checks of R192: RANGE, NOT-PERMITTED for client 0, RANGE for a field, STATION-TAKEN, and
CLIENT-BUSY for a change of role or station of a client with a binding, a ticket or a GAUGING station. -/
def Obligations.SetClientWritesTheEntry : Prop :=
  (∀ (h : Header) (client : Word) (form : ClientForm) (e : ClientEntry) (s : State), s.admits h .setClient →
      1 ≤ client.toNat → client.toNat ≤ 63 → clientEntryOf form = some e →
      (∀ n, e.station = some n → stationTaken client.toNat n s.hall = false) →
      ((e.role = (s.hall.client client.toNat).role ∧ e.station = (s.hall.client client.toNat).station) ∨
        clientHasWork client.toNat s.hall = false) →
      exec (.setClient h client form) s = .next (s.answered .setClient h .ok
        (e.words ++ [markWord (decide (e.role ≠ (s.hall.client client.toNat).role))]) []
          (s.hall.putClient client.toNat e))) ∧
  ((∀ (s : Hall) (m n : Nat) (e : ClientEntry), (s.putClient m e).client n = if m = n then e else s.client n) ∧
    (∀ (p k v o : Word) (e : ClientEntry), clientEntryOf (.machine p k v o) = some e →
      ∃ q : Fin 16, q.val = p.toNat ∧ 1 ≤ k.toNat ∧ k.toNat ≤ 240 ∧ -1000000 ≤ o.toInt ∧ o.toInt ≤ 1000000 ∧
        e = .machine q k.toNat (if v.toNat = 0 then 1 else if 255 < v.toNat then 255 else v.toNat) o.toInt)) ∧
  (∀ (h : Header) (client : Word) (form : ClientForm) (s : State), s.admits h .setClient →
    let refused := fun code : Code =>
      exec (.setClient h client form) s = .next (s.answered .setClient h code [] [] s.hall)
    (63 < client.toNat → refused .range) ∧ (client.toNat = 0 → refused .notPermitted) ∧
    (1 ≤ client.toNat → client.toNat ≤ 63 →
      (∀ st, form = .presetter st → 3 < st.toNat → refused .range) ∧
      (∀ p k v o, form = .machine p k v o → 15 < p.toNat ∨ k.toNat < 1 ∨ 240 < k.toNat ∨ o.toInt < -1000000 ∨
        1000000 < o.toInt → refused .range) ∧
      (∀ (st : Word) (n : Fin 4) (other : Nat), form = .presetter st → st.toNat = n.val → other ≠ client.toNat →
        (s.hall.client other).station = some n → refused .stationTaken) ∧
      (∀ e, clientEntryOf form = some e →
        (∀ n, e.station = some n → stationTaken client.toNat n s.hall = false) →
        e.role ≠ (s.hall.client client.toNat).role ∨ e.station ≠ (s.hall.client client.toNat).station →
        (∃ x ∈ s.hall.bindings, x.2.client = client.toNat) ∨
          (∃ x ∈ s.hall.tickets, x.2.requester = client.toNat ∨ x.2.dest = some client.toNat) ∨
          (∃ n, (s.hall.client client.toNat).station = some n ∧ (s.hall.station n).state.isGauging = true) →
        refused .clientBusy)))

/-- ATTENTION answers the flags and enables as they stand and then clears the chosen flags; SET-ENABLES stores the
enables and answers them with the flags (R196). Setting a flag sets it and no other, and ATTN is asserted exactly while
a set flag has its enable set (R195). -/
def Obligations.AttentionReportsThenClears : Prop :=
  (∀ (h : Header) (s : State) (x : BitVec 7),
      (s.admits h .attention → exec (.attention h x) s = .next (s.answered .attention h .ok
        [s.hall.flags.setWidth 32, s.hall.enables.setWidth 32] []
        { s.hall with flags := s.hall.flags &&& ~~~x })) ∧
      (s.admits h .setEnables → exec (.setEnables h x) s = .next (s.answered .setEnables h .ok
        [x.setWidth 32, s.hall.flags.setWidth 32] [] { s.hall with enables := x }))) ∧
  ((∀ (s : Hall) (f g : Flag), (setFlag f s).hasFlag g = (decide (f = g) || s.hasFlag g)) ∧
    (∀ s : Hall, attnLine s = true ↔ ∃ i, i < 7 ∧ s.flags.getLsbD i = true ∧ s.enables.getLsbD i = true))

/-- Each configuration table has one writer among the requests: the client table SET-CLIENT, the programs STORE-PROGRAM,
the enables SET-ENABLES, the sweep period SET-SWEEP, the bindings MOUNT, DISMOUNT, PROTECT, UNPROTECT and WIPE, the
index ENROL, RETIRE and WIPE. No request but ATTENTION clears an attention flag. -/
def Obligations.EachTableHasItsWriters : Prop :=
  (∀ (i : Instr) (s : Hall),
      (i.kind ≠ some .setClient → (handle i s).hall.clients = s.clients) ∧
      (i.kind ≠ some .storeProgram → (handle i s).hall.programs = s.programs) ∧
      (i.kind ≠ some .setEnables → (handle i s).hall.enables = s.enables) ∧
      (i.kind ≠ some .setSweep → (handle i s).hall.sweep = s.sweep) ∧
      (i.kind ∉ [some .mount, some .dismount, some .protect, some .unprotect, some .wipe] →
        (handle i s).hall.bindings = s.bindings) ∧
      (i.kind ∉ [some .enrol, some .retire, some .wipe] → (handle i s).hall.index = s.index) ∧
      (handle i s).hall.startKind = s.startKind ∧ (handle i s).hall.startCause = s.startCause) ∧
  (∀ (i : Instr) (s : Hall) (f : Flag), i.kind ≠ some .attention → s.hasFlag f = true →
      (handle i s).hall.hasFlag f = true)

/-- WIPE frees every record, ticket and binding, empties every queue and zeroes the class counters, keeps the
configuration, and answers the numbers freed; while a station is GAUGING or a channel is neither IDLE nor OFF it is BUSY
(R199). -/
def Obligations.WipeEmptiesTheHall : Prop :=
  ∀ (h : Header) (s : State), s.admits h .wipe →
    ((∀ n, (s.hall.station n).state.isGauging = false) →
      (∀ c, (s.hall.channel c).state = .idle ∨ (s.hall.channel c).state = .off) →
      exec (.wipe h) s = .next (s.answered .wipe h .ok
        [natWord s.hall.records.length, natWord s.hall.tickets.length, natWord s.hall.bindings.length] []
        { s.hall with
          records := [], index := [], chains := [], tickets := [], waitQueues := [], handover := [], bindings := [],
          channels := mapBank (fun c => { c with queue := [] }) s.hall.channels,
          classes := s.hall.classes.mapValues fun c => { c with
            usable := 0, low := decide (0 < c.policy.minStock), issues := ⟨0, false⟩, rejects := ⟨0, false⟩ } })) ∧
    ((∃ n, (s.hall.station n).state.isGauging = true) ∨
      (∃ c, (s.hall.channel c).state ≠ .idle ∧ (s.hall.channel c).state ≠ .off) →
      exec (.wipe h) s = .next (s.answered .wipe h .busy [] [] s.hall))

/-! ### Records (chapter 1) -/

/-- ENROL: a NEW record with no geometry, marks no and counters 0 in the lowest free slot, and its number in the index
(R4, R12, R13). -/
def Obligations.EnrolCreatesNewRecord : Prop :=
  ∀ (h : Header) (tool cls : Word) (loc : CribLoc) (life : Option Word) (location : Location) (c : ClassEntry)
    (slot : Nat) (s : State), s.admits h .enrol → 1 ≤ tool.toNat → tool.toNat ≤ 99999999 → 1 ≤ cls.toNat →
    cls.toNat ≤ 255 → cribLocation loc = some location → s.hall.classes.get cls.toNat = some c →
    s.hall.index.get tool.toNat = none → s.hall.records.lowestFree 4096 = some slot →
    let given := match life with
      | none => c.shape.fullLife
      | some w => if w.toNat < 1 then 1 else if c.shape.fullLife < w.toNat then c.shape.fullLife else w.toNat
    exec (.enrol h tool cls loc life) s = .next (s.answered .enrol h .ok [natWord slot, tool, natWord given] []
      { s.hall with
        index := s.hall.index.put tool.toNat slot,
        records := s.hall.records.put slot
          { tool := tool.toNat, cls := cls.toNat, status := .new, rejectCause := none, location := location
            measured := none, life := given, regrinds := 0, warned := false, ended := false, outAge := 0,
            overdue := false, dest := none, opened := false } })

/-- RETIRE is refused for a number out of range, of no live record, or of a GAUGING, PROMISED, OUT or MOUNTED one. A
NEW, HELD or READY record's slot and number become free; a READY one leaves its chain and the usable count falls (R7,
R8, R10, R14, R35). -/
def Obligations.RetireFreesSlotAndNumber : Prop :=
  ∀ (h : Header) (tool : Word) (s : State), s.admits h .retire →
    let refused := fun code : Code => exec (.retire h tool) s = .next (s.answered .retire h code [] [] s.hall)
    (tool.toNat < 1 ∨ 99999999 < tool.toNat → refused .range) ∧
    (1 ≤ tool.toNat → tool.toNat ≤ 99999999 → s.hall.index.get tool.toNat = none → refused .unknownTool) ∧
    (∀ slot r, s.holds tool slot r →
      (∀ resume, r.status = .gauging resume → refused .busy) ∧
      (r.status = .promised ∨ r.status = .out ∨ r.status = .mounted → refused .state) ∧
      (r.status = .new ∨ (∃ reason, r.status = .held reason) → exec (.retire h tool) s = .next
        (s.answered .retire h .ok [natWord slot, natWord r.life, natWord r.regrinds] []
          { s.hall with records := s.hall.records.del slot, index := s.hall.index.del r.tool })) ∧
      (∀ c, r.status = .ready → s.hall.classes.get r.cls = some c → exec (.retire h tool) s = .next
        (s.answered .retire h .ok [natWord slot, natWord r.life, natWord r.regrinds] (fallNotices r.cls c)
          { s.hall with
            records := s.hall.records.del slot, index := s.hall.index.del r.tool,
            chains := s.hall.chains.putList r.cls ((s.hall.chains.list r.cls).filter fun x => x != slot),
            classes := s.hall.classes.put r.cls (fallEntry c), flags := fallFlags c s.hall.flags })))

/-- HOLD of a NEW or READY record makes it HELD with reason MANUAL and answers the state it left (R7, R8, R15). MOVE-BIN
gives a NEW, READY or HELD record its new location and keeps every other field (R18). -/
def Obligations.HoldAndMoveBinChangeOneField : Prop :=
  (∀ (h : Header) (tool : Word) (slot : Nat) (r : Record) (s : State), s.admits h .hold → s.holds tool slot r →
      (r.status = .new → exec (.hold h tool) s = .next (s.answered .hold h .ok [1] []
        { s.hall with records := s.hall.records.put slot { r with status := .held .manual } })) ∧
      (∀ c, r.status = .ready → s.hall.classes.get r.cls = some c → exec (.hold h tool) s = .next
        (s.answered .hold h .ok [2] (fallNotices r.cls c)
          { s.hall with
            records := s.hall.records.put slot { r with status := .held .manual },
            chains := s.hall.chains.putList r.cls ((s.hall.chains.list r.cls).filter fun x => x != slot),
            classes := s.hall.classes.put r.cls (fallEntry c), flags := fallFlags c s.hall.flags }))) ∧
  (∀ (h : Header) (tool : Word) (loc : CribLoc) (location : Location) (slot : Nat) (r : Record) (s : State),
      s.admits h .moveBin → s.holds tool slot r → cribLocation loc = some location →
      r.status = .new ∨ r.status = .ready ∨ (∃ reason, r.status = .held reason) →
      exec (.moveBin h tool loc) s = .next (s.answered .moveBin h .ok [] []
        { s.hall with records := s.hall.records.put slot { r with location := location } }))

/-- RELEASE-HOLD: REJECTED, STALE and SUSPECT give NEW with the geometry cleared; AUDIT and MANUAL give READY for a
fresh measurement and life in hand, else NEW; regrind gives NEW with a new count and life; WORN without regrind is STATE
(R16, R17). Where it gives READY no ticket of the class waits, or the mode is not ONLINE. -/
def Obligations.ReleaseHoldDecidesByReason : Prop :=
  ∀ (h : Header) (tool : Word) (slot : Nat) (r : Record) (reason : HoldReason) (c : ClassEntry) (s : State),
    s.admits h .releaseHold → s.holds tool slot r → r.status = .held reason → s.hall.classes.get r.cls = some c →
    let cleared := { r with status := .new, measured := none, rejectCause := none }
    let fit := ∃ g m, r.measured = some (g, m) ∧ 0 < r.life ∧ (c.policy.validity = 0 ∨ m.age < c.policy.validity)
    (reason = .worn → exec (.releaseHold h tool false) s =
      .next (s.answered .releaseHold h .state [] [] s.hall)) ∧
    (reason = .rejected ∨ reason = .stale ∨ reason = .suspect ∨ ((reason = .audit ∨ reason = .manual) ∧ ¬fit) →
      exec (.releaseHold h tool false) s = .next
        (s.answered .releaseHold h .ok [1] [] { s.hall with records := s.hall.records.put slot cleared })) ∧
    ((reason = .audit ∨ reason = .manual) ∧ fit ∧ s.noTaker r.cls →
      exec (.releaseHold h tool false) s = .next (s.answered .releaseHold h .ok [2] []
        { s.hall with
          records := s.hall.records.put slot { r with status := .ready },
          chains := s.hall.chains.putList r.cls (chainInsert (s.hall.records.put slot { r with status := .ready })
            slot { r with status := .ready } (s.hall.chains.list r.cls)),
          classes := s.hall.classes.put r.cls (riseEntry c) })) ∧
    (r.regrinds + 1 ≤ c.policy.maxRegrinds → (r.regrinds + 1) * c.policy.regrindLoss < c.shape.fullLife →
      exec (.releaseHold h tool true) s = .next (s.answered .releaseHold h .ok
        [natWord (r.regrinds + 1), natWord (c.shape.fullLife - (r.regrinds + 1) * c.policy.regrindLoss)] []
        { s.hall with records := s.hall.records.put slot { cleared with
          regrinds := r.regrinds + 1, life := c.shape.fullLife - (r.regrinds + 1) * c.policy.regrindLoss,
          warned := false, ended := false } })) ∧
    (c.policy.maxRegrinds < r.regrinds + 1 ∨ c.shape.fullLife ≤ (r.regrinds + 1) * c.policy.regrindLoss →
      exec (.releaseHold h tool true) s = .next (s.answered .releaseHold h .exhausted [] [] s.hall))

/-- The law of the hall is kept by every step: every chain holds exactly the READY records of its class, by life and then
by tool number (R7, R11); every usable count and low mark is true (R8, R33, R34); tickets stand in their one collection,
are tied to PROMISED records and keep band order (R82, R85, R86, R94, R110, R111); bindings are tied to MOUNTED records
(R127); sessions to GAUGING stations and records (R43, R60). A READY record joins its chain where every entry before it
has lower life, or equal life and a lower tool number, and the other entries keep their order. -/
def Obligations.EveryStepKeepsHallLaw : Prop :=
  (∀ s t : State, HallLaw s.hall → step s = .next t → HallLaw t.hall) ∧
  (∀ (records : Table Record) (slot : Nat) (r : Record) (chain : List Nat), records.get slot = some r →
    (∀ x ∈ chain, ∃ rx, records.get x = some rx ∧ rx.tool ≠ r.tool) →
    let rises := fun a b : Nat => ∀ ra rb, records.get a = some ra → records.get b = some rb →
      ra.life < rb.life ∨ (ra.life = rb.life ∧ ra.tool < rb.tool)
    chain.Pairwise rises →
    (chainInsert records slot r chain).Pairwise rises ∧
    ∃ before after, chain = before ++ after ∧ chainInsert records slot r chain = before ++ slot :: after)

/-- The requests that only read records, classes and tickets answer and change nothing (R19, R20, R31, R89, R90; log
13). That the ticket image gives a place in a wait queue and in the handover list too is the model's choice (log 21). -/
def Obligations.RecordClassAndTicketQueriesAnswer : Prop :=
  (∀ (h : Header) (tool : Word) (slot : Nat) (r : Record) (s : State), s.admits h .queryTool → s.holds tool slot r →
    exec (.queryTool h tool) s = .next (s.answered .queryTool h .ok (recordImage slot r) [] s.hall)) ∧
  (∀ (h : Header) (cls start : Word) (c : ClassEntry) (s : State), s.admits h .findClass → 1 ≤ cls.toNat →
    cls.toNat ≤ 255 → start.toNat ≤ 4095 → s.hall.classes.get cls.toNat = some c →
    let chain := s.hall.chains.list cls.toNat
    let page := (chain.drop start.toNat).take 12
    exec (.findClass h cls start) s = .next (s.answered .findClass h .ok
      (natWord page.length :: natWord chain.length :: page.flatMap (chainEntry s.hall.records)) [] s.hall)) ∧
  (∀ (h : Header) (cls : Word) (c : ClassEntry) (s : State), s.admits h .queryClass → 1 ≤ cls.toNat →
    cls.toNat ≤ 255 → s.hall.classes.get cls.toNat = some c →
    exec (.queryClass h cls) s = .next (s.answered .queryClass h .ok
      (classWords c ++ [natWord (recordsOf cls.toNat s.hall), natWord (ticketsOf cls.toNat s.hall)]) [] s.hall)) ∧
  (∀ (h : Header) (n : Word) (s : State), s.admits h .queryTicket → n.toNat ≤ 127 →
    exec (.queryTicket h n) s = .next (s.answered .queryTicket h .ok
      (match s.hall.tickets.get n.toNat with
        | none => freeTicketImage n.toNat
        | some t => ticketImage n.toNat t ((t.status.slot.map fun slot => toolIn slot s.hall).getD 0)
            (collectionOf n.toNat t s.hall)) [] s.hall)) ∧
  (∀ (h : Header) (cls start : Word) (s : State), s.admits h .queryIssue → start.toNat ≤ 127 →
    cls.toNat = 0 ∨ (cls.toNat ≤ 255 ∧ (s.hall.classes.get cls.toNat).isSome = true) →
    let pool := [natWord s.hall.mode.code, natWord (128 - s.hall.tickets.length), natWord (ticketsIn 1 s.hall),
      natWord (ticketsIn 2 s.hall), natWord (ticketsIn 3 s.hall), natWord (ticketsIn 4 s.hall),
      natWord s.hall.handover.length]
    let queue := s.hall.waitQueues.list cls.toNat
    exec (.queryIssue h cls start) s = .next (s.answered .queryIssue h .ok
      (if cls.toNat = 0 then pool
        else pool ++ natWord queue.length ::
          ((queue.drop start.toNat).take 12).flatMap (queueEntry s.hall.tickets)) [] s.hall))

/-- The requests that only read stations, channels, the handover list, pockets and programs answer and change nothing
(R56, R123, R140, R163; log 15, log 17). IDENTIFY and QUERY-CLIENT answer and change nothing (R194, R200; that the
answer of QUERY-CLIENT has no word for the GAUGING mark of a client that is no PRESETTER is the model's choice, log 28;
the words of its entry are log 17). -/
def Obligations.UnitAndPortQueriesAnswer : Prop :=
  ((∀ (h : Header) (station : Word) (n : Fin 4) (s : State), s.admits h .queryStation → station.toNat = n.val →
      exec (.queryStation h station) s = .next (s.answered .queryStation h .ok
        (stationImage (s.hall.station n) (boundClient n s.hall)
          (((s.hall.station n).session.map fun x => sessionTool s.hall x.kind).getD 0)) [] s.hall)) ∧
    (∀ (h : Header) (channel start : Word) (c : Fin 16) (s : State), s.admits h .queryChannel →
      channel.toNat = c.val → start.toNat ≤ 127 →
      let x := s.hall.channel c
      exec (.queryChannel h channel start) s = .next (s.answered .queryChannel h .ok
        ([natWord x.state.code, natWord x.level.code, markWord x.enabled, natWord x.openWindow, natWord x.takeWindow,
          natWord (x.timer.getD 0), natWord x.queue.length] ++
          ((x.queue.drop start.toNat).take 12).flatMap (channelEntry s.hall)) [] s.hall)) ∧
    (∀ (h : Header) (start : Word) (s : State), s.admits h .queryHandover → start.toNat ≤ 127 →
      exec (.queryHandover h start) s = .next (s.answered .queryHandover h .ok
        (natWord s.hall.handover.length ::
          ((s.hall.handover.drop start.toNat).take 12).flatMap (handoverEntry s.hall)) [] s.hall)) ∧
    (∀ (h : Header) (machine pocket : Word) (s : State), s.admits h .queryPocket → machine.toNat ≤ 63 →
      1 ≤ pocket.toNat → pocket.toNat ≤ 240 →
      (s.hall.client h.client.toNat).role ≠ .machine ∨ machine.toNat = h.client.toNat →
      exec (.queryPocket h machine pocket) s = .next (s.answered .queryPocket h .ok
        (natWord (bindingsOf machine.toNat s.hall).length ::
          (((bindingsOf machine.toNat s.hall).filter fun e => decide (pocket.toNat ≤ e.2.pocket)).take 12).flatMap
            (pocketEntry s.hall)) [] s.hall)) ∧
    (∀ (h : Header) (program : Word) (p : Program) (s : State), s.admits h .queryProgram → program.toNat ≤ 15 →
      s.hall.programs.get program.toNat = some p →
      exec (.queryProgram h program) s = .next (s.answered .queryProgram h .ok
        ([natWord p.steps.length, natWord p.bytes.length, natWord p.greatest,
          packWord [packField 0 8 program.toNat, packField 8 8 p.bytes.length]] ++ packBytes p.bytes) [] s.hall))) ∧
  ((∀ (h : Header) (s : State), s.admits h .identify → exec (.identify h) s = .next (s.answered .identify h .ok
      [720, 1, 4096, 255, 128, 1024, 16, 4, 16, 64, 16, 32, natWord s.hall.startKind.code,
        natWord s.hall.startCause.code] [] s.hall)) ∧
    (∀ (h : Header) (client : Word) (s : State), s.admits h .queryClient → client.toNat ≤ 63 →
      (s.hall.client h.client.toNat).role = .toolroom ∨ client.toNat = h.client.toNat →
      exec (.queryClient h client) s = .next (s.answered .queryClient h .ok
        ((s.hall.client client.toNat).words ++
          [natWord (clientBindings client.toNat s.hall), natWord (clientTickets client.toNat s.hall)] ++
          (match (s.hall.client client.toNat).station with
            | some n => [markWord (s.hall.station n).state.isGauging]
            | none => [])) [] s.hall)))

/-! ### Classes (chapter 2) -/

/-- DEFINE-CLASS creates an undefined class or rewrites a defined one, with its policy clamped; the shape of a class in
use cannot be changed (R27 to R29, R34; the words of its answer, log 13). DELETE-CLASS of a class not in use makes it
undefined and answers its counters; one in use is CLASS-IN-USE (R32; the order of the counters and marks in that answer
is the model's choice, log 17). -/
def Obligations.DefineAndDeleteClassWriteTheEntry : Prop :=
  (∀ (h : Header) (cls : Word) (shape : ShapeWords) (w : PolicyWords) (s : State), s.admits h .defineClass →
      1 ≤ cls.toNat → cls.toNat ≤ 255 → (shapeOf shape).inRange = true →
      let policy : Policy :=
        { warnLevel := min w.warnLevel.toNat shape.fullLife.toNat, regrindLoss := min w.regrindLoss.toNat 1000000
          maxRegrinds := min w.maxRegrinds.toNat 15, validity := min w.validity.toNat 65535,
          outLimit := min w.outLimit.toNat 65535, waitLimit := min w.waitLimit.toNat 65535,
          promotionAge := min w.promotionAge.toNat 65535, minStock := min w.minStock.toNat 4096,
          autoReplace := w.autoReplace }
      let fresh : ClassEntry := ⟨shapeOf shape, policy, 0, decide (0 < policy.minStock), ⟨0, false⟩, ⟨0, false⟩⟩
      (s.hall.classes.get cls.toNat = none → exec (.defineClass h cls shape w) s = .next
        (s.answered .defineClass h .ok (classWords fresh ++ [1]) []
          { s.hall with classes := s.hall.classes.put cls.toNat fresh })) ∧
      (∀ old, s.hall.classes.get cls.toNat = some old →
        inUse cls.toNat s.hall = false ∨ shapeOf shape = old.shape →
        let kept := { old with
          shape := shapeOf shape, policy := policy, low := decide (old.usable < policy.minStock) }
        exec (.defineClass h cls shape w) s = .next (s.answered .defineClass h .ok (classWords kept ++ [0]) []
          { s.hall with classes := s.hall.classes.put cls.toNat kept })) ∧
      (∀ old, s.hall.classes.get cls.toNat = some old → inUse cls.toNat s.hall = true → shapeOf shape ≠ old.shape →
        exec (.defineClass h cls shape w) s = .next (s.answered .defineClass h .classInUse [] [] s.hall))) ∧
  (∀ (h : Header) (cls : Word) (c : ClassEntry) (s : State), s.admits h .deleteClass → 1 ≤ cls.toNat →
      cls.toNat ≤ 255 → s.hall.classes.get cls.toNat = some c →
      (recordsOf cls.toNat s.hall = 0 → ticketsOf cls.toNat s.hall = 0 → exec (.deleteClass h cls) s = .next
        (s.answered .deleteClass h .ok (counterWords c) [] { s.hall with classes := s.hall.classes.del cls.toNat })) ∧
      (0 < recordsOf cls.toNat s.hall ∨ 0 < ticketsOf cls.toNat s.hall →
        exec (.deleteClass h cls) s = .next (s.answered .deleteClass h .classInUse [] [] s.hall)))

/-- STATS: RANGE, NO-CLASS, or the counters and marks as they stand, then cleared when the option says so (R37). -/
def Obligations.StatsReportsThenClears : Prop :=
  ∀ (h : Header) (cls : Word) (clear : Bool) (s : State), s.admits h .stats →
    (¬(1 ≤ cls.toNat ∧ cls.toNat ≤ 255) →
      exec (.stats h cls clear) s = .next (s.answered .stats h .range [] [] s.hall)) ∧
    (1 ≤ cls.toNat → cls.toNat ≤ 255 → s.hall.classes.get cls.toNat = none →
      exec (.stats h cls clear) s = .next (s.answered .stats h .noClass [] [] s.hall)) ∧
    (∀ c, 1 ≤ cls.toNat → cls.toNat ≤ 255 → s.hall.classes.get cls.toNat = some c →
      exec (.stats h cls clear) s = .next (s.answered .stats h .ok
        [c.issues.count, if c.issues.wrapped then 1 else 0, c.rejects.count, if c.rejects.wrapped then 1 else 0] []
        (if clear then
          { s.hall with
            classes := s.hall.classes.put cls.toNat { c with issues := ⟨0, false⟩, rejects := ⟨0, false⟩ } }
        else s.hall)))

/-! ### Stations, calibration and gauging (chapters 3 and 4) -/

/-- A calibration write stages its half: alone it waits, with the other half it activates a station that is not GAUGING
and sets the pending mark of one that is; activation consumes both halves and advances the generation (R49 to R52; that
one word of the answer gives the generation whether or not it is new, with the activation mark always behind it, is the
model's choice, log 29). -/
def Obligations.CalibrationWriteStagesOrActivates : Prop :=
  ∀ (h : Header) (station : Word) (n : Fin 4) (s : State), station.toNat = n.val →
    mayCalibrate (s.hall.client h.client.toNat) n = true →
    let st := s.hall.station n
    let gen := if st.generation < 65535 then st.generation + 1 else 1
    let active := fun (g : GeometryHalf) (c : CorrectionHalf) => { st with
      active := some (g, c), stagedGeometry := none, stagedCorrection := none, pending := false, generation := gen,
      state := .ready }
    (∀ v : GeometryWords, s.admits h .calGeometry → (geometryHalfOf v).inRange = true →
      (st.stagedCorrection = none → exec (.calGeometry h station v) s = .next
        (s.answered .calGeometry h .ok [1, 0, markWord st.pending, natWord st.generation, 0] []
          (s.hall.setStation n { st with stagedGeometry := some (geometryHalfOf v) }))) ∧
      (∀ c, st.stagedCorrection = some c → st.state.isGauging = false → exec (.calGeometry h station v) s = .next
        (s.answered .calGeometry h .ok [0, 0, 0, natWord gen, 1] []
          (s.hall.setStation n (active (geometryHalfOf v) c)))) ∧
      (∀ c, st.stagedCorrection = some c → st.state.isGauging = true → exec (.calGeometry h station v) s = .next
        (s.answered .calGeometry h .ok [1, 1, 1, natWord st.generation, 0] []
          (s.hall.setStation n { st with stagedGeometry := some (geometryHalfOf v), pending := true })))) ∧
    (∀ v : CorrectionWords, s.admits h .calCorrection → (correctionHalfOf v).inRange = true →
      (st.stagedGeometry = none → exec (.calCorrection h station v) s = .next
        (s.answered .calCorrection h .ok [0, 1, markWord st.pending, natWord st.generation, 0] []
          (s.hall.setStation n { st with stagedCorrection := some (correctionHalfOf v) }))) ∧
      (∀ g, st.stagedGeometry = some g → st.state.isGauging = false → exec (.calCorrection h station v) s = .next
        (s.answered .calCorrection h .ok [0, 0, 0, natWord gen, 1] []
          (s.hall.setStation n (active g (correctionHalfOf v))))) ∧
      (∀ g, st.stagedGeometry = some g → st.state.isGauging = true → exec (.calCorrection h station v) s = .next
        (s.answered .calCorrection h .ok [1, 1, 1, natWord st.generation, 0] []
          (s.hall.setStation n { st with stagedCorrection := some (correctionHalfOf v), pending := true }))))

/-- CONFIGURE-STATION stores the clamped window and leaves a running interval alone; SET-SWEEP stores the clamped period
and leaves the running interval alone, and without a period changes nothing (R46, R176). -/
def Obligations.WindowAndPeriodAreClamped : Prop :=
  (∀ (h : Header) (station window : Word) (n : Fin 4) (s : State), s.admits h .configureStation →
    station.toNat = n.val →
    let w := if window.toNat < 10 then 10 else if 2550 < window.toNat then 2550 else window.toNat
    exec (.configureStation h station window) s = .next (s.answered .configureStation h .ok [natWord w] []
      (s.hall.setStation n { s.hall.station n with window := w }))) ∧
  (∀ (h : Header) (period : Word) (s : State), s.admits h .setSweep →
    let p := if period.toNat < 10 then 10 else if 3600 < period.toNat then 3600 else period.toNat
    exec (.setSweep h (some period)) s = .next (s.answered .setSweep h .ok
      [natWord p, natWord s.hall.sweep.length, natWord (s.hall.sweep.length - s.hall.sweep.count)] []
      { s.hall with sweep := { s.hall.sweep with period := p } }) ∧
    exec (.setSweep h none) s = .next (s.answered .setSweep h .ok
      [natWord s.hall.sweep.period, natWord s.hall.sweep.length,
        natWord (s.hall.sweep.length - s.hall.sweep.count)] [] s.hall))

/-- HOLD-BY-CALIBRATION makes every READY record measured at the station under the generation HELD SUSPECT, leaves every
other record as it is, and answers how many it held; its notices are LOW-STOCK (R55). -/
def Obligations.HoldByCalibrationHoldsMatchingReadyTools : Prop :=
  ∀ (h : Header) (station generation : Word) (n : Fin 4) (s : State), s.admits h .holdByCalibration →
    s.hall.records.wf → station.toNat = n.val → 1 ≤ generation.toNat → generation.toNat ≤ 65535 →
    let hit := fun r : Record => decide (r.status = .ready) && measuredAt n generation.toNat r
    ∃ t notices, exec (.holdByCalibration h station generation) s = .next t ∧
      t.port.outbound = s.port.outbound ++ .response 0x24#8 h.client h.tag .ok
        [station, generation, natWord (s.hall.records.count hit)] :: List.map OutMessage.notice notices ∧
      (∀ x ∈ notices, x.kind = .lowStock) ∧
      (∀ slot, t.hall.records.get slot =
        (s.hall.records.get slot).map fun r => if hit r then { r with status := .held .suspect } else r) ∧
      t.hall.stations = s.hall.stations ∧ t.hall.tickets = s.hall.tickets ∧ t.hall.bindings = s.hall.bindings ∧
      t.hall.channels = s.hall.channels

/-- The station state decides first whether a session may open: the table of R44. -/
def Obligations.StationStateDecidesGaugeBegin : Prop :=
  ∀ (h : Header) (tool : Word) (n : Fin 4) (s : State), s.admits h .gaugeBegin →
    (s.hall.client h.client.toNat).station = some n →
    ((s.hall.station n).state = .uncal →
      exec (.gaugeBegin h tool) s = .next (s.answered .gaugeBegin h .stationNotReady [] [] s.hall)) ∧
    ((s.hall.station n).state = .drift → tool ≠ 0 →
      exec (.gaugeBegin h tool) s = .next (s.answered .gaugeBegin h .stationNotReady [] [] s.hall)) ∧
    ((∃ e, (s.hall.station n).state = .gauging e) →
      exec (.gaugeBegin h tool) s = .next (s.answered .gaugeBegin h .busy [] [] s.hall)) ∧
    ((s.hall.station n).state = .ready → (handle (.gaugeBegin h tool) s.hall).code ≠ .stationNotReady ∧
      (handle (.gaugeBegin h 0) s.hall).code = .ok) ∧
    ((s.hall.station n).state = .drift → (handle (.gaugeBegin h 0) s.hall).code = .ok)

/-- GAUGE-BEGIN opens a session: for the master at a READY or DRIFT station, and for a NEW, READY or HELD tool (but
WORN) at a READY station, whose record goes to GAUGING with its resume state (R62 to R64). -/
def Obligations.GaugeBeginOpensSession : Prop :=
  ∀ (h : Header) (n : Fin 4) (s : State), s.admits h .gaugeBegin →
    (s.hall.client h.client.toNat).station = some n →
    let st := s.hall.station n
    (∀ entry : EntryState, st.state = entry.state → exec (.gaugeBegin h 0) s = .next
      (s.answered .gaugeBegin h .ok [0, natWord st.generation, natWord st.window] []
        (s.hall.setStation n { st with
          state := .gauging entry, session := some ⟨.master, [], st.window⟩ }))) ∧
    (∀ (tool : Word) (slot : Nat) (r : Record), st.state = .ready → s.holds tool slot r →
      let opened := { st with state := .gauging .ready, session := some ⟨.tool slot, [], st.window⟩ }
      (r.status = .new → exec (.gaugeBegin h tool) s = .next (s.answered .gaugeBegin h .ok
        [natWord slot, 1, 0, natWord st.generation, natWord st.window] []
        { s.hall with
          records := s.hall.records.put slot { r with status := .gauging .new },
          stations := s.hall.stations.set n.val opened n.isLt })) ∧
      (∀ reason, reason ≠ .worn → r.status = .held reason → exec (.gaugeBegin h tool) s = .next
        (s.answered .gaugeBegin h .ok
          [natWord slot, 7, natWord reason.code, natWord st.generation, natWord st.window] []
          { s.hall with
            records := s.hall.records.put slot { r with status := .gauging (.held reason) },
            stations := s.hall.stations.set n.val opened n.isLt })) ∧
      (∀ c, r.status = .ready → s.hall.classes.get r.cls = some c → exec (.gaugeBegin h tool) s = .next
        (s.answered .gaugeBegin h .ok [natWord slot, 2, 0, natWord st.generation, natWord st.window]
          (fallNotices r.cls c)
          { s.hall with
            records := s.hall.records.put slot { r with status := .gauging .ready },
            stations := s.hall.stations.set n.val opened n.isLt,
            chains := s.hall.chains.putList r.cls ((s.hall.chains.list r.cls).filter fun x => x != slot),
            classes := s.hall.classes.put r.cls (fallEntry c), flags := fallFlags c s.hall.flags })))

/-- GAUGE-POINT: without a session NO-SESSION; a count out of range RANGE; with 16 points POINTS-FULL, carrying 16 and
the window; else the point is appended and the window timer restarts (R65). -/
def Obligations.GaugePointAppendsAndRestartsTimer : Prop :=
  ∀ (h : Header) (z x : Word) (n : Fin 4) (s : State), s.admits h .gaugePoint →
    (s.hall.client h.client.toNat).station = some n →
    let st := s.hall.station n
    let inRange := -8388608 ≤ z.toInt ∧ z.toInt ≤ 8388607 ∧ -8388608 ≤ x.toInt ∧ x.toInt ≤ 8388607
    (st.session = none → exec (.gaugePoint h z x) s = .next (s.answered .gaugePoint h .noSession [] [] s.hall)) ∧
    (∀ u, st.session = some u → ¬inRange →
      exec (.gaugePoint h z x) s = .next (s.answered .gaugePoint h .range [] [] s.hall)) ∧
    (∀ u, st.session = some u → inRange → u.points.length = 16 → exec (.gaugePoint h z x) s = .next
      (s.answered .gaugePoint h .pointsFull [16, natWord st.window] [] s.hall)) ∧
    (∀ u, st.session = some u → inRange → u.points.length < 16 → exec (.gaugePoint h z x) s = .next
      (s.answered .gaugePoint h .ok [natWord (u.points.length + 1), natWord st.window] []
        (s.hall.setStation n { st with
          session := some { u with points := u.points ++ [⟨z.toInt, x.toInt⟩], timer := st.window } })))

/-- GAUGE-END of a tool session: an accepted tool takes its geometry and measurement and enters READY, a rejected one
takes them with its cause and is HELD REJECTED; the station closes. GAUGE-END of a master session: READY on PASS, DRIFT
with two notices and the flag on FAIL (R66, R74, R75, R77). -/
def Obligations.GaugeEndAppliesTheVerdict : Prop :=
  ∀ (h : Header) (temperature : Word) (n : Fin 4) (u : Session) (p : Point) (rest : List Point) (g : GeometryHalf)
    (k : CorrectionHalf) (s : State), s.admits h .gaugeEnd → (s.hall.client h.client.toNat).station = some n →
    (s.hall.station n).session = some u → u.points = p :: rest → (s.hall.station n).active = some (g, k) →
    let st := s.hall.station n
    let T : Int := if temperature.toInt < -1000 then -1000 else if 6000 < temperature.toInt then 6000
      else temperature.toInt
    let m := gather (reducePoint g k T p) (rest.map (reducePoint g k T))
    (∀ slot r c, u.kind = .tool slot → s.hall.records.get slot = some r → s.hall.classes.get r.cls = some c →
      let index := (m.length - c.shape.nominalLength - c.shape.gradeBase).fdiv c.shape.gradeStep
      let grade := if index < 0 then 0 else if 15 < index then 15 else index.toNat
      let measured := { r with
        measured := some (⟨m.length, m.radius, m.runout, grade⟩, ⟨n, st.generation, T, 0⟩),
        rejectCause := classify c.shape m }
      (classify c.shape m = none → s.noTaker r.cls → exec (.gaugeEnd h temperature) s = .next
        (s.answered .gaugeEnd h .ok
          (endBody 1 none m.saturated u.points.length m.length m.radius m.runout index T st (st.close .ready) none) []
          { s.hall with
            records := s.hall.records.put slot { measured with status := .ready },
            chains := s.hall.chains.putList r.cls
              (chainInsert (s.hall.records.put slot { measured with status := .ready }) slot
                { measured with status := .ready } (s.hall.chains.list r.cls)),
            classes := s.hall.classes.put r.cls (riseEntry c),
            stations := s.hall.stations.set n.val (st.close .ready) n.isLt })) ∧
      (∀ cause, classify c.shape m = some cause → exec (.gaugeEnd h temperature) s = .next
        (s.answered .gaugeEnd h .ok
          (endBody 2 (some cause) m.saturated u.points.length m.length m.radius m.runout index T st (st.close .ready)
            none) []
          { s.hall with
            records := s.hall.records.put slot { measured with status := .held .rejected },
            classes := s.hall.classes.put r.cls { c with rejects := c.rejects.bump },
            stations := s.hall.stations.set n.val (st.close .ready) n.isLt }))) ∧
    (u.kind = .master →
      let devZ := m.length - g.zRef
      let devX := m.radius - g.xRef
      let pass := m.saturated = false ∧ (devZ.natAbs : Int) ≤ k.driftLimit ∧ (devX.natAbs : Int) ≤ k.driftLimit
      let body := [natWord n.val, intWord devZ, intWord devX, intWord k.driftLimit, natWord st.generation,
        markWord m.saturated]
      (pass → exec (.gaugeEnd h temperature) s = .next (s.answered .gaugeEnd h .ok
        (endBody 3 none m.saturated u.points.length devZ devX k.driftLimit 0 T st (st.close .ready) none) []
        (s.hall.setStation n (st.close .ready)))) ∧
      (∀ bound, ¬pass → boundClient n s.hall = some bound → exec (.gaugeEnd h temperature) s = .next
        (s.answered .gaugeEnd h .ok
          (endBody 4 none m.saturated u.points.length devZ devX k.driftLimit 0 T st (st.close .drift) none)
          [⟨.drift, 255#8, body⟩, ⟨.drift, BitVec.ofNat 8 bound, body⟩]
          { s.hall with
            flags := s.hall.flags ||| 0x04#7,
            stations := s.hall.stations.set n.val (st.close .drift) n.isLt })))

/-- At a session's end the station takes its new state, the context is discarded, and a pending set is activated last:
both halves consumed, the generation advanced, DRIFT made READY (R43, R45, R52, R53). -/
def Obligations.SessionEndActivatesPendingSet : Prop :=
  ∀ (st : Station) (e : EntryState),
    (st.pending = false → st.close e.state = { st with state := e.state, session := none }) ∧
    (∀ g c, st.pending = true → st.stagedGeometry = some g → st.stagedCorrection = some c →
      st.close e.state = { st with
        state := .ready, session := none, active := some (g, c), stagedGeometry := none, stagedCorrection := none,
        pending := false, generation := if st.generation < 65535 then st.generation + 1 else 1 })

/-- GAUGE-ABORT and the gauge window expiry end a session without a result: the record returns to its resume state with
what it held, the station to its entry state; the expiry tells the bound client, and without a session it has no effect
(R57, R67, R68; fields that are absent answer 0, log 14). -/
def Obligations.AbortReturnsRecordAndStation : Prop :=
  ∀ (n : Fin 4) (u : Session) (e : EntryState) (s : State), (s.hall.station n).session = some u →
    (s.hall.station n).state = .gauging e →
    let st := s.hall.station n
    let after := st.close e.state
    let gen := if st.pending then after.generation else 0
    (∀ h : Header, s.admits h .gaugeAbort → (s.hall.client h.client.toNat).station = some n →
      (u.kind = .master → exec (.gaugeAbort h) s = .next (s.answered .gaugeAbort h .ok
        [2, 0, natWord u.points.length, 0, 0, natWord gen, markWord st.pending] [] (s.hall.setStation n after))) ∧
      (∀ slot r resume, u.kind = .tool slot → s.hall.records.get slot = some r → r.status = .gauging resume →
        resume ≠ .ready → exec (.gaugeAbort h) s = .next (s.answered .gaugeAbort h .ok
          [1, natWord r.tool, natWord u.points.length, natWord resume.status.code, 0, natWord gen,
            markWord st.pending] []
          { s.hall with
            records := s.hall.records.put slot { r with status := resume.status },
            stations := s.hall.stations.set n.val after n.isLt }))) ∧
    (∀ bound, boundClient n s.hall = some bound → s.roomFor 1 →
      (u.kind = .master → exec (.gaugeWindowExpiry n) s = .next (s.eventTaken
        [⟨.gaugeTimeout, BitVec.ofNat 8 bound, [natWord n.val, 2, 0, natWord u.points.length, 0, natWord gen]⟩]
        (s.hall.setStation n after))) ∧
      (∀ slot r c, u.kind = .tool slot → s.hall.records.get slot = some r → r.status = .gauging .ready →
        s.hall.classes.get r.cls = some c → s.noTaker r.cls →
        exec (.gaugeWindowExpiry n) s = .next (s.eventTaken
          [⟨.gaugeTimeout, BitVec.ofNat 8 bound,
            [natWord n.val, 1, natWord r.tool, natWord u.points.length, 2, natWord gen]⟩]
          { s.hall with
            records := s.hall.records.put slot { r with status := .ready },
            chains := s.hall.chains.putList r.cls (chainInsert (s.hall.records.put slot { r with status := .ready })
              slot { r with status := .ready } (s.hall.chains.list r.cls)),
            classes := s.hall.classes.put r.cls (riseEntry c),
            stations := s.hall.stations.set n.val after n.isLt }))) ∧
    (∀ m : Fin 4, (s.hall.station m).session = none → exec (.gaugeWindowExpiry m) s = .next (drivePins s))

/-- Rounding is to the nearest whole number with halves away from zero, the ceiling is the least whole number not below
the quotient, and they give the conversion of a count, the thermal correction and the charge of a USAGE, the ceiling of
amount times severity over 64, at most 261,117 for an amount and a severity in range (Rounding, spec/00_scope.md; R69,
R71, R166). The reduction gathers the points: the length is the largest corrected position, the
radius the largest X position, the runout their spread limited to 9,999,999 with the saturated mark, whatever the
points' order (R72). -/
def Obligations.MeasuringArithmeticIsExact : Prop :=
  ((∀ (n : Int) (d : Nat), 0 < d → 2 * (roundDiv n d * d - n).natAbs ≤ d ∧
      (2 * (roundDiv n d * d - n).natAbs = d → n.natAbs ≤ (roundDiv n d * d).natAbs)) ∧
    (∀ n d : Nat, 0 < d → n ≤ ceilDiv n d * d ∧ ∀ k, n ≤ k * d → ceilDiv n d ≤ k) ∧
    (∀ count zero pitch : Int, convert count zero pitch = roundDiv ((count - zero) * pitch) 65536) ∧
    (∀ p k T : Int, compensation p k T = roundDiv (p * k * (T - 2000)) 10000000000) ∧
    (∀ amount severity : Nat, consumedBy amount severity = ceilDiv (amount * severity) 64 ∧
      (amount ≤ 65535 → severity ≤ 255 → consumedBy amount severity ≤ 261117))) ∧
  (∀ (first : Reduced) (rest : List Reduced),
      let points := first :: rest
      let m := gather first rest
      (∃ q ∈ points, m.length = q.zc) ∧ (∀ q ∈ points, q.zc ≤ m.length) ∧
      (∃ q ∈ points, m.radius = q.xp) ∧ (∀ q ∈ points, q.xp ≤ m.radius) ∧
      (∃ q ∈ points, (∀ v ∈ points, q.xp ≤ v.xp) ∧
        m.runout = (if 9999999 < m.radius - q.xp then 9999999 else m.radius - q.xp) ∧
        (m.saturated = true ↔ (∃ v ∈ points, v.saturated = true) ∨ 9999999 < m.radius - q.xp)))

/-! ### Issue tickets (chapter 5) -/

/-- A promise joins a READY record to a ticket: the record leaves its chain and is PROMISED, the ticket leaves its wait
queue and takes the slot, and it joins the queue of its drawer's channel, which starts a cycle when it is IDLE with no
other ticket and the mode is ONLINE, or the handover list (R94, R95, R110, R112). -/
def Obligations.PromiseJoinsRecordAndTicket : Prop :=
  ∀ (n slot : Nat) (t : Ticket) (r : Record) (s : Hall),
    let tickets := s.tickets.put n { t with status := .promised slot }
    let joined := { s with
      records := s.records.put slot { r with status := .promised }
      chains := s.chains.putList r.cls ((s.chains.list r.cls).filter fun x => x != slot)
      tickets := tickets
      waitQueues := if t.status = TicketStatus.waiting then
          s.waitQueues.putList t.cls ((s.waitQueues.list t.cls).filter fun x => x != n)
        else s.waitQueues }
    (∀ c b, r.location = .drawer c b → (s.channel c).enabled = true →
      ((s.channel c).state ≠ .idle ∨ s.mode ≠ .online → promise n t slot r s =
        ({ joined with
            channels := s.channels.set c.val
              { s.channel c with queue := channelQueueInsert tickets n (bandRank t.band) (s.channel c).queue } c.isLt },
          .channel)) ∧
      ((s.channel c).state = .idle → s.mode = .online → (s.channel c).queue = [] → promise n t slot r s =
        ({ joined with
            tickets := s.tickets.put n { t with status := .released slot }
            channels := s.channels.set c.val
              { s.channel c with state := .released, timer := some (s.channel c).openWindow, queue := [n] } c.isLt },
          .channel))) ∧
    ((∀ c b, r.location = .drawer c b → (s.channel c).enabled = false) → promise n t slot r s =
      ({ joined with handover := s.handover ++ [n] }, .handover))

/-- An offer with the mode ONLINE promises the record to the first ticket of its class's wait queue that it meets by
grade and life, with a PROMISED notice when the ticket asks for one; else nothing changes (R94, R96). -/
def Obligations.OfferServesFirstTicketMet : Prop :=
  ∀ (slot : Nat) (r : Record) (s : Hall), s.records.get slot = some r →
    let met := fun t : Ticket => t.lowGrade ≤ r.grade ∧ r.grade ≤ t.highGrade ∧ t.life ≤ r.life
    (∀ (n : Nat) (t : Ticket) (before after : List Nat), s.mode = .online →
      s.waitQueues.list r.cls = before ++ n :: after → s.tickets.get n = some t → met t →
      (∀ x ∈ before, ∀ u, s.tickets.get x = some u → ¬met u) →
      offer slot s = ⟨(promise n t slot r s).1,
        if t.notify then
          [⟨.promised, BitVec.ofNat 8 t.requester, [natWord n, t.tag, natWord r.tool, natWord slot, r.location.word,
            natWord r.grade, natWord r.life, natWord (promise n t slot r s).2.code]⟩]
        else [],
        some n⟩) ∧
    (s.mode ≠ .online ∨ (∀ x ∈ s.waitQueues.list r.cls, ∀ u, s.tickets.get x = some u → ¬met u) →
      offer slot s = ⟨s, [], none⟩)

/-- ISSUE fills the lowest free ticket. By tool number it promises a READY tool at once, whatever its grade and life; by
class it promises the first record of the chain that meets the ticket by grade and life when the mode is ONLINE, else the
ticket waits at the tail of its band (R84, R86, R91 to R93). It is refused by the checks of R91 in their order: RANGE,
NO-CLASS or UNKNOWN-TOOL, WAIT-FULL with no ticket free, and for a tool BUSY, OFFLINE and STATE; a refusal changes
nothing. -/
def Obligations.IssuePromisesOrQueues : Prop :=
  (∀ (h : Header) (f : IssueForm) (n cls : Nat) (c : ClassEntry) (s : State), s.admits h .issue →
    s.hall.tickets.lowestFree 128 = some n → s.hall.classes.get cls = some c →
    (∀ g, f.range = some g → g.1.toNat ≤ g.2.toNat) → f.life.toNat ≤ 1000000 →
    (∀ d, f.dest = some d → d.toNat ≤ 63 ∧ (s.hall.client d.toNat).role = .machine) →
    let ticket : Ticket :=
      { status := .waiting, requester := h.client.toNat, tag := h.tag, origin := .requested, band := f.band, cls := cls,
        lowGrade := (match f.range with | some g => g.1.toNat | none => 0),
        highGrade := (match f.range with | some g => g.2.toNat | none => c.shape.topGrade),
        life := if f.life = 0 then 1 else f.life.toNat, specific := none,
        dest := (match f.dest with
          | some d => some d.toNat
          | none => if (s.hall.client h.client.toNat).role = .machine then some h.client.toNat else none),
        notify := f.notify, age := 0 }
    let met := fun r : Record => ticket.lowGrade ≤ r.grade ∧ r.grade ≤ ticket.highGrade ∧ ticket.life ≤ r.life
    let promised := fun (t : Ticket) (slot : Nat) (r : Record) =>
      s.answered .issue h .promised
        [natWord n, natWord r.tool, natWord slot, r.location.word, natWord r.grade, natWord r.life,
          markWord (decide ((promise n { t with status := .promised slot } slot r s.hall).2 = .channel))] []
        (promise n { t with status := .promised slot } slot r s.hall).1
    (∀ slot r, f.byTool = true → s.holds f.target slot r → r.cls = cls → r.status = .ready → s.hall.mode = .online →
      exec (.issue h f) s = .next (promised { ticket with specific := some f.target.toNat } slot r)) ∧
    (f.byTool = false → f.target.toNat = cls → 1 ≤ cls → cls ≤ 255 →
      (∀ before slot after r, s.hall.mode = .online → s.hall.chains.list cls = before ++ slot :: after →
        s.hall.records.get slot = some r → met r →
        (∀ x ∈ before, ∀ u, s.hall.records.get x = some u → ¬met u) →
        exec (.issue h f) s = .next (promised ticket slot r)) ∧
      (s.hall.mode ≠ .online ∨
        (∀ x ∈ s.hall.chains.list cls, ∀ u, s.hall.records.get x = some u → ¬met u) →
        let tickets := s.hall.tickets.put n ticket
        ∃ before after, s.hall.waitQueues.list cls = before ++ after ∧
          (∀ x ∈ before, ∀ u, tickets.get x = some u → u.band.code ≤ f.band.code) ∧
          (∀ x ∈ after.head?, ∃ u, tickets.get x = some u ∧ f.band.code < u.band.code) ∧
          exec (.issue h f) s = .next (s.answered .issue h .queued
            [natWord n, natWord f.band.code, natWord ((before ++ n :: after).idxOf n)] []
            { s.hall with
              tickets := tickets, waitQueues := s.hall.waitQueues.putList cls (before ++ n :: after) })))) ∧
  (∀ (h : Header) (f : IssueForm) (s : State), s.admits h .issue →
    let refused := fun code : Code => exec (.issue h f) s = .next (s.answered .issue h code [] [] s.hall)
    let inRange := (f.byTool = true → 1 ≤ f.target.toNat ∧ f.target.toNat ≤ 99999999) ∧
      (f.byTool = false → 1 ≤ f.target.toNat ∧ f.target.toNat ≤ 255) ∧
      (∀ g, f.range = some g → g.1.toNat ≤ g.2.toNat) ∧ f.life.toNat ≤ 1000000 ∧
      (∀ d, f.dest = some d → d.toNat ≤ 63 ∧ (s.hall.client d.toNat).role = .machine)
    (¬inRange → refused .range) ∧
    (inRange → f.byTool = false →
      (s.hall.classes.get f.target.toNat = none → refused .noClass) ∧
      (∀ c, s.hall.classes.get f.target.toNat = some c → s.hall.tickets.lowestFree 128 = none → refused .waitFull)) ∧
    (inRange → f.byTool = true →
      (s.hall.index.get f.target.toNat = none → refused .unknownTool) ∧
      (∀ slot r, s.holds f.target slot r →
        (s.hall.tickets.lowestFree 128 = none → refused .waitFull) ∧
        (∀ n, s.hall.tickets.lowestFree 128 = some n →
          (r.status.isGauging = true → refused .busy) ∧
          (r.status.isGauging = false → s.hall.mode ≠ .online → refused .offline) ∧
          (r.status.isGauging = false → s.hall.mode = .online → r.status ≠ .ready → refused .state)))))

/-- CANCEL by the requester or a TOOLROOM client frees the ticket. A WAITING one leaves its wait queue; for a PROMISED
one the record returns to READY; for a RELEASED one the cycle ends too, and its channel goes IDLE when no ticket stands
behind it; an OPENED one is TOO-LATE. Where the record returns, no ticket of its class waits or the mode is not ONLINE.
A TOOLROOM client's CANCEL of another's ticket tells the requester (R98, R99, R120; fields that are absent answer 0, log
14). -/
def Obligations.CancelFreesTicketAndReturnsTool : Prop :=
  ∀ (h : Header) (ticket : Word) (tag : Option Word) (t : Ticket) (s : State), s.admits h .cancel →
    ticket.toNat ≤ 127 → s.hall.tickets.get ticket.toNat = some t → tag = none ∨ tag = some t.tag →
    h.client.toNat = t.requester ∨ (s.hall.client h.client.toNat).role = .toolroom →
    let n := ticket.toNat
    let told : List Notice := if h.client.toNat = t.requester then [] else
      [⟨.cancelled, BitVec.ofNat 8 t.requester, [natWord n, t.tag, natWord t.status.code, natWord h.client.toNat]⟩]
    (t.status = .waiting → exec (.cancel h ticket tag) s = .next (s.answered .cancel h .ok [1, 0, 0, 0] told
      { s.hall with
        waitQueues := s.hall.waitQueues.putList t.cls ((s.hall.waitQueues.list t.cls).filter fun x => x != n)
        tickets := s.hall.tickets.del n })) ∧
    (∀ slot r, s.hall.records.get slot = some r → s.noTaker r.cls →
      let back := { r with status := .ready, opened := false }
      let returned := { s.hall with
        tickets := s.hall.tickets.del n
        records := s.hall.records.put slot back
        chains := s.hall.chains.putList r.cls
          (chainInsert (s.hall.records.put slot back) slot back (s.hall.chains.list r.cls)) }
      (t.status = .promised slot → (∀ c, n ∉ (s.hall.channel c).queue) → exec (.cancel h ticket tag) s = .next
        (s.answered .cancel h .ok [2, natWord r.tool, 2, 0] told
          { returned with handover := s.hall.handover.filter fun x => x != n })) ∧
      (∀ c, n ∈ (s.hall.channel c).queue → (∀ d, d ≠ c → n ∉ (s.hall.channel d).queue) →
        (t.status = .promised slot → exec (.cancel h ticket tag) s = .next
          (s.answered .cancel h .ok [2, natWord r.tool, 2, 0] told
            { returned with
              channels := s.hall.channels.set c.val
                { s.hall.channel c with queue := (s.hall.channel c).queue.filter fun x => x != n } c.isLt })) ∧
        (t.status = .released slot → (s.hall.channel c).queue = [n] → s.hall.mode ≠ .draining →
          exec (.cancel h ticket tag) s = .next
            (s.answered .cancel h .ok [3, natWord r.tool, 2, 0] told
              { returned with
                channels := s.hall.channels.set c.val
                  { s.hall.channel c with state := .idle, timer := none, queue := [] } c.isLt })))) ∧
    (∀ slot, t.status = .opened slot →
      exec (.cancel h ticket tag) s = .next (s.answered .cancel h .tooLate [] [] s.hall))

/-- RETURN of an OUT tool gives it its location and judges it: without life HELD WORN; past the validity of its
measurement HELD STALE, and the usable count falls; else READY (R102; no ticket answers 0, log 14). Where it is READY no
ticket of the class waits, or the mode is not ONLINE. -/
def Obligations.ReturnJudgesTheTool : Prop :=
  ∀ (h : Header) (tool : Word) (loc : CribLoc) (location : Location) (slot : Nat) (r : Record) (g : Geometry)
    (m : Measurement) (c : ClassEntry) (s : State), s.admits h .returnTool → cribLocation loc = some location →
    s.holds tool slot r → r.status = .out → r.measured = some (g, m) → s.hall.classes.get r.cls = some c →
    let back := { r with location := location, outAge := 0, overdue := false, dest := none }
    let worn := { back with status := .held .worn }
    let stale := { back with status := .held .stale }
    let ready := { back with status := .ready }
    let isStale := 0 < c.policy.validity ∧ c.policy.validity ≤ m.age
    (r.life = 0 → exec (.returnTool h tool loc) s = .next (s.answered .returnTool h .ok [7, 0] []
      { s.hall with records := s.hall.records.put slot worn })) ∧
    (0 < r.life → isStale → exec (.returnTool h tool loc) s = .next
      (s.answered .returnTool h .ok [7, 0] (fallNotices r.cls c)
        { s.hall with
          records := s.hall.records.put slot stale
          classes := s.hall.classes.put r.cls (fallEntry c)
          flags := fallFlags c s.hall.flags })) ∧
    (0 < r.life → ¬isStale → s.noTaker r.cls → exec (.returnTool h tool loc) s = .next
      (s.answered .returnTool h .ok [2, 0] []
        { s.hall with
          records := s.hall.records.put slot ready
          chains := s.hall.chains.putList r.cls
            (chainInsert (s.hall.records.put slot ready) slot ready (s.hall.chains.list r.cls)) }))

/-- SET-ISSUE-MODE: off makes an ONLINE mode DRAINING, or OFFLINE when every channel has settled; on makes another mode
ONLINE and, where no ticket waits, its one further effect is a cycle on every IDLE channel with a ticket in its queue;
where tickets wait, the records of every chain are then offered, the classes in ascending number and each chain from its
head, and the notices of the promises follow in that order, as far as the outbound queue holds them. A choice that asks
for what is changes nothing (R87, R88, R190). -/
def Obligations.IssueModeDrainsAndReturns : Prop :=
  ∀ (h : Header) (s : State), s.admits h .setIssueMode →
    let settled := ∀ c, (s.hall.channel c).state = .idle ∨ (s.hall.channel c).state = .off ∨
      (s.hall.channel c).state = .forced
    (s.hall.mode = .online → exec (.setIssueMode h true) s = .next (s.answered .setIssueMode h .ok [1] [] s.hall)) ∧
    (s.hall.mode = .draining → exec (.setIssueMode h false) s = .next (s.answered .setIssueMode h .ok [2] [] s.hall)) ∧
    (s.hall.mode = .offline → exec (.setIssueMode h false) s = .next (s.answered .setIssueMode h .ok [3] [] s.hall)) ∧
    (s.hall.mode = .online → settled → exec (.setIssueMode h false) s = .next
      (s.answered .setIssueMode h .ok [3] [] { s.hall with mode := .offline })) ∧
    (s.hall.mode = .online → ¬settled → exec (.setIssueMode h false) s = .next
      (s.answered .setIssueMode h .ok [2] [] { s.hall with mode := .draining })) ∧
    (s.hall.mode ≠ .online →
      ∃ hall : Hall,
        hall = { s.hall with mode := .online, channels := hall.channels, tickets := hall.tickets } ∧
        (∀ c n rest, (s.hall.channel c).state = .idle → (s.hall.channel c).queue = n :: rest →
          hall.channel c =
            { s.hall.channel c with state := .released, timer := some (s.hall.channel c).openWindow } ∧
          (∀ t slot, s.hall.tickets.get n = some t → t.status = .promised slot →
            hall.tickets.get n = some { t with status := .released slot })) ∧
        (∀ c, (s.hall.channel c).state ≠ .idle ∨ (s.hall.channel c).queue = [] →
          hall.channel c = s.hall.channel c) ∧
        (∀ n, (∀ c, (s.hall.channel c).state = .idle → (s.hall.channel c).queue.head? ≠ some n) →
          hall.tickets.get n = s.hall.tickets.get n) ∧
        ((∀ cls, s.hall.waitQueues.list cls = []) →
          exec (.setIssueMode h true) s = .next (s.answered .setIssueMode h .ok [1] [] hall)) ∧
        (let walked := (s.hall.chains.flatMap Prod.snd).foldl
            (fun x slot => ((offer slot x.1).hall, x.2 ++ (offer slot x.1).notices)) (hall, ([] : List Notice))
          ∃ t, exec (.setIssueMode h true) s = .next t ∧
            t.port.outbound = (s.port.outbound ++ OutMessage.response Kind.setIssueMode.code h.client h.tag .ok [1] ::
              walked.2.map OutMessage.notice).take 32 ∧
            t.hall = (if s.port.outbound.length + 1 + walked.2.length ≤ 32 then walked.1
              else { walked.1 with flags := walked.1.flags ||| 0x01#7 })))

/-! ### Drawer channels and handover (chapter 6) -/

/-- CONFIGURE-CHANNEL clamps the windows to 5 to 255; it enables a channel whose drawer is shut and has no ticket in the
handover list, as IDLE, and disables one that is IDLE with no ticket, as OFF; else DRAWER-OPEN or BUSY. CLEAR-CHANNEL
takes a FORCED channel whose drawer is shut to IDLE, or to a cycle when the mode is ONLINE and a ticket stands in its
queue; else DRAWER-OPEN or STATE (R109, R119; that DRAWER-OPEN comes before BUSY where both grounds to refuse an enabling
stand is the model's choice, log 22). While the mode is DRAINING, a disabling after which every channel is IDLE, OFF or
FORCED makes it OFFLINE (R87, R109). -/
def Obligations.ChannelsAreConfiguredAndCleared : Prop :=
  (∀ (h : Header) (channel openWindow takeWindow : Word) (c : Fin 16) (s : State), s.admits h .configureChannel →
    channel.toNat = c.val →
    let clamped := fun w : Word => if w.toNat < 5 then 5 else if 255 < w.toNat then 255 else w.toNat
    let x := { s.hall.channel c with openWindow := clamped openWindow, takeWindow := clamped takeWindow }
    let wrote := fun y : Channel => s.answered .configureChannel h .ok
      [markWord y.enabled, natWord (clamped openWindow), natWord (clamped takeWindow), natWord y.state.code] []
      (s.hall.setChannel c y)
    let inHandover := ∃ n ∈ s.hall.handover, ∃ t slot r bin, s.hall.tickets.get n = some t ∧
      t.status.slot = some slot ∧ s.hall.records.get slot = some r ∧ r.location = .drawer c bin
    (x.enabled = true → exec (.configureChannel h channel true openWindow takeWindow) s = .next (wrote x)) ∧
    (x.enabled = false → exec (.configureChannel h channel false openWindow takeWindow) s = .next (wrote x)) ∧
    (x.enabled = false → x.level = .shut → ¬inHandover →
      exec (.configureChannel h channel true openWindow takeWindow) s =
        .next (wrote { x with enabled := true, state := .idle })) ∧
    (x.enabled = true → x.state = .idle → x.queue = [] → s.hall.mode ≠ .draining →
      exec (.configureChannel h channel false openWindow takeWindow) s =
        .next (wrote { x with enabled := false, state := .off })) ∧
    (x.enabled = true → x.state = .idle → x.queue = [] → s.hall.mode = .draining →
      let settled := ∀ d, d = c ∨ (s.hall.channel d).state = .idle ∨ (s.hall.channel d).state = .off ∨
        (s.hall.channel d).state = .forced
      let off := s.hall.setChannel c { x with enabled := false, state := .off }
      (¬settled → exec (.configureChannel h channel false openWindow takeWindow) s =
        .next (wrote { x with enabled := false, state := .off })) ∧
      (settled → exec (.configureChannel h channel false openWindow takeWindow) s =
        .next (s.answered .configureChannel h .ok [markWord false, natWord (clamped openWindow),
          natWord (clamped takeWindow), natWord ChannelState.off.code] [] { off with mode := .offline }))) ∧
    (x.enabled = false → x.level = .open → exec (.configureChannel h channel true openWindow takeWindow) s =
      .next (s.answered .configureChannel h .drawerOpen [] [] s.hall)) ∧
    (x.enabled = false → x.level = .shut → inHandover →
      exec (.configureChannel h channel true openWindow takeWindow) s =
        .next (s.answered .configureChannel h .busy [] [] s.hall)) ∧
    (x.enabled = true → x.state ≠ .idle ∨ x.queue ≠ [] →
      exec (.configureChannel h channel false openWindow takeWindow) s =
        .next (s.answered .configureChannel h .busy [] [] s.hall))) ∧
  (∀ (h : Header) (channel : Word) (c : Fin 16) (s : State), s.admits h .clearChannel → channel.toNat = c.val →
    let x := s.hall.channel c
    (x.state = .forced → x.level = .shut → x.queue = [] ∨ s.hall.mode ≠ .online →
      exec (.clearChannel h channel) s = .next (s.answered .clearChannel h .ok [2] []
        (s.hall.setChannel c { x with state := .idle }))) ∧
    (∀ n rest t slot, x.state = .forced → x.level = .shut → x.queue = n :: rest → s.hall.mode = .online →
      s.hall.tickets.get n = some t → t.status = .promised slot →
      exec (.clearChannel h channel) s = .next (s.answered .clearChannel h .ok [3] []
        { s.hall with
          channels := s.hall.channels.set c.val
            { x with state := .released, timer := some x.openWindow } c.isLt
          tickets := s.hall.tickets.put n { t with status := .released slot } })) ∧
    (x.state = .forced ∧ x.level = .open ∨ x.state = .ajar →
      exec (.clearChannel h channel) s = .next (s.answered .clearChannel h .drawerOpen [] [] s.hall)) ∧
    (x.state ≠ .forced → x.state ≠ .ajar →
      exec (.clearChannel h channel) s = .next (s.answered .clearChannel h .state [] [] s.hall)))

/-- HANDOVER is refused by the checks of R122 in their order. Of a ticket in the handover list it is the completion: the
tool is OUT for the ticket's destination, the issue counter rises, the requester hears ISSUED when the ticket asks for
it, and the ticket is freed (R100, R122). -/
def Obligations.HandoverCompletesTheTicket : Prop :=
  ∀ (h : Header) (ticket : Word) (tag : Option Word) (s : State), s.admits h .handover →
    let n := ticket.toNat
    let refused := fun code : Code => exec (.handover h ticket tag) s = .next (s.answered .handover h code [] [] s.hall)
    (128 ≤ n → refused .range) ∧
    (n ≤ 127 → s.hall.tickets.get n = none → refused .noTicket) ∧
    (∀ t, n ≤ 127 → s.hall.tickets.get n = some t →
      (∀ w, tag = some w → w ≠ t.tag → refused .noTicket) ∧
      (tag = none ∨ tag = some t.tag →
        (n ∉ s.hall.handover → refused .state) ∧
        (∀ slot r c, n ∈ s.hall.handover → t.status = .promised slot → s.hall.records.get slot = some r →
          s.hall.classes.get r.cls = some c → exec (.handover h ticket tag) s = .next
            (s.answered .handover h .ok [ticket, natWord r.tool, natWord slot, natWord (t.dest.getD 0)]
              (if t.notify then [⟨.issued, BitVec.ofNat 8 t.requester, [ticket, t.tag, natWord r.tool, natWord slot,
                natWord (t.dest.getD 0), natWord r.grade, natWord r.life]⟩] else [])
              { s.hall with
                handover := s.hall.handover.filter fun x => x != n
                tickets := s.hall.tickets.del n
                records := s.hall.records.put slot
                  { r with status := .out, location := .none, dest := t.dest, outAge := 0, opened := false }
                classes := s.hall.classes.put r.cls { c with issues := c.issues.bump } }))))

/-- OPENED: the opening of a RELEASED channel starts the take window and marks the tool opened; that of an OFF or FORCED
channel only gives the level; that of an IDLE channel makes it FORCED, holds every READY tool of the drawer for audit
and tells every toolroom client (R107, R112, R117, R118). That the CHANNEL-FAULT notice holds its cause first is the
model's choice, log 17; with the level already seen nothing changes, which is its choice too, log 9. -/
def Obligations.OpenedStartsTakeOrForces : Prop :=
  ∀ (c : Fin 16) (s : State),
    let x := s.hall.channel c
    let y := { x with filter := .open, level := .open }
    (x.filter = .open → exec (.opened c) s = .next (drivePins s)) ∧
    (∀ n rest t slot r, x.filter = .shut → x.state = .released → x.queue = n :: rest →
      s.hall.tickets.get n = some t → t.status = .released slot → s.hall.records.get slot = some r →
      exec (.opened c) s = .next (s.eventTaken []
        { s.hall with
          channels := s.hall.channels.set c.val { y with state := .opened, timer := some x.takeWindow } c.isLt
          tickets := s.hall.tickets.put n { t with status := .opened slot }
          records := s.hall.records.put slot { r with opened := true } })) ∧
    (x.filter = .shut → x.state = .off ∨ x.state = .forced →
      exec (.opened c) s = .next (s.eventTaken [] (s.hall.setChannel c y))) ∧
    (x.filter = .shut → x.state = .idle → s.hall.records.wf →
      let hit := fun r : Record => decide (r.status = .ready) && r.location.inDrawer c
      ∃ t, exec (.opened c) s = .next t ∧
        t.hall.channels = s.hall.channels.set c.val { y with state := .forced } c.isLt ∧
        (∀ slot, t.hall.records.get slot =
          (s.hall.records.get slot).map fun r => if hit r then { r with status := .held .audit } else r) ∧
        t.hall.flags.getLsbD 1 = true ∧ t.hall.tickets = s.hall.tickets ∧ t.hall.stations = s.hall.stations ∧
        t.hall.bindings = s.hall.bindings ∧ t.hall.waitQueues = s.hall.waitQueues ∧
        (s.roomFor 1 → ∃ notices, (∀ m ∈ notices, m.kind = .lowStock) ∧
          t.port.outbound = s.port.outbound ++
            .notice ⟨.channelFault, 255#8, [2, natWord c.val, natWord (s.hall.records.count hit)]⟩ ::
              List.map OutMessage.notice notices))

/-- CLOSED: the closing of an OPENED or AJAR channel completes the head ticket and moves the channel on, to the next
head when the mode is ONLINE, else to IDLE, which may end the drain; on a channel in another state it only gives the
level (R87, R100, R107, R114, R116, R118). With the level already seen nothing changes (the model's choice, log 9). -/
def Obligations.ClosedCompletesTheCycle : Prop :=
  ∀ (c : Fin 16) (s : State),
    let x := s.hall.channel c
    let y := { x with filter := .shut, level := .shut }
    (x.filter = .shut → exec (.closed c) s = .next (drivePins s)) ∧
    (x.filter = .open → x.state ≠ .opened → x.state ≠ .ajar →
      exec (.closed c) s = .next (s.eventTaken [] (s.hall.setChannel c y))) ∧
    (∀ n rest t slot r k, x.filter = .open → x.state = .opened ∨ x.state = .ajar → x.queue = n :: rest → n ∉ rest →
      s.hall.tickets.get n = some t → t.status = .opened slot → s.hall.records.get slot = some r →
      s.hall.classes.get r.cls = some k → s.roomFor 1 →
      let issued : List Notice := if t.notify then [⟨.issued, BitVec.ofNat 8 t.requester, [natWord n, t.tag,
        natWord r.tool, natWord slot, natWord (t.dest.getD 0), natWord r.grade, natWord r.life]⟩] else []
      let done := { s.hall with
        tickets := s.hall.tickets.del n
        records := s.hall.records.put slot
          { r with status := .out, location := .none, dest := t.dest, outAge := 0, opened := false }
        classes := s.hall.classes.put r.cls { k with issues := k.issues.bump } }
      (rest = [] ∨ s.hall.mode = .offline → s.hall.mode ≠ .draining →
        exec (.closed c) s = .next (s.eventTaken issued
          { done with
            channels := s.hall.channels.set c.val
              { y with state := .idle, timer := none, queue := rest } c.isLt })) ∧
      (s.hall.mode = .draining →
        (∀ d, d ≠ c → (s.hall.channel d).state = .idle ∨ (s.hall.channel d).state = .off ∨
          (s.hall.channel d).state = .forced) →
        exec (.closed c) s = .next (s.eventTaken issued
          { done with
            mode := .offline
            channels := s.hall.channels.set c.val
              { y with state := .idle, timer := none, queue := rest } c.isLt })) ∧
      (∀ n' rest' t' slot', rest = n' :: rest' → s.hall.mode = .online → s.hall.tickets.get n' = some t' →
        t'.status = .promised slot' → exec (.closed c) s = .next (s.eventTaken issued
          { done with
            tickets := (s.hall.tickets.del n).put n' { t' with status := .released slot' }
            channels := s.hall.channels.set c.val
              { y with state := .released, timer := some x.openWindow, queue := rest } c.isLt })))

/-- The expiries of a channel's windows: of the open window of a RELEASED channel, the ticket lapses, its requester
hears NOT-COLLECTED and the tool returns to READY; of the take window of an OPENED channel, it is AJAR and every
toolroom client is told; in any other state no such window runs and the command has no effect (R101, R108, R113, R115;
that an expiry command looks at the state and not at the seconds left is the model's choice, log 8, and so is the place
of the cause as the first word of the CHANNEL-FAULT notice, log 17). Where the tool returns no ticket of its class waits,
or the mode is not ONLINE. -/
def Obligations.WindowExpiriesEndOrMarkTheCycle : Prop :=
  ∀ (c : Fin 16) (s : State),
    let x := s.hall.channel c
    (x.state ≠ .released → exec (.openWindowExpiry c) s = .next (drivePins s)) ∧
    (x.state ≠ .opened → exec (.takeWindowExpiry c) s = .next (drivePins s)) ∧
    (∀ n t slot r, x.state = .released → x.queue = [n] → s.hall.tickets.get n = some t → t.status = .released slot →
      s.hall.records.get slot = some r → s.noTaker r.cls → s.hall.mode ≠ .draining → s.roomFor 1 →
      let back := { r with status := .ready, opened := false }
      exec (.openWindowExpiry c) s = .next (s.eventTaken
        [⟨.notCollected, BitVec.ofNat 8 t.requester, [natWord n, t.tag, natWord r.tool, natWord c.val]⟩]
        { s.hall with
          tickets := s.hall.tickets.del n
          records := s.hall.records.put slot back
          chains := s.hall.chains.putList r.cls
            (chainInsert (s.hall.records.put slot back) slot back (s.hall.chains.list r.cls))
          channels := s.hall.channels.set c.val { x with state := .idle, timer := none, queue := [] } c.isLt })) ∧
    (∀ n rest t slot r, x.state = .opened → x.queue = n :: rest → s.hall.tickets.get n = some t →
      t.status = .opened slot → s.hall.records.get slot = some r → s.roomFor 1 →
      exec (.takeWindowExpiry c) s = .next (s.eventTaken
        [⟨.channelFault, 255#8, [1, natWord c.val, natWord n, natWord r.tool]⟩]
        { s.hall with
          channels := s.hall.channels.set c.val { x with state := .ajar, timer := none } c.isLt
          flags := s.hall.flags ||| 0x02#7 }))

/-! ### Machine pockets (chapter 7) -/

/-- MOUNT of an OUT tool bound for this machine or for none, into a free pocket, binds it in the lowest free entry and
answers its handoff block; where a load of the render has more digits than its width, the answer is SIGNIFICANCE with the
step's index, the field, the value and the width, and nothing changes (the code of the field in that body is the model's
choice, log 17). DISMOUNT frees the entry and the tool is OUT with location none, its other fields kept; a protected
pocket is PROTECTED. PROTECT and UNPROTECT set the mark (R127, R129 to R133). -/
def Obligations.MountBindsAndDismountReleases : Prop :=
  (∀ (h : Header) (tool pocket : Word) (p : Fin 16) (pockets severity slot entry : Nat) (offset : Int) (r : Record)
    (g : Geometry) (m : Measurement) (stored : Program) (s : State), s.admits h .mount → s.holds tool slot r →
    s.hall.client h.client.toNat = .machine p pockets severity offset → 1 ≤ pocket.toNat → pocket.toNat ≤ pockets →
    r.status = .out → r.dest = none ∨ r.dest = some h.client.toNat →
    findBinding h.client.toNat pocket.toNat s.hall.bindings = none → s.hall.bindings.lowestFree 1024 = some entry →
    r.measured = some (g, m) → s.hall.programs.get p.val = some stored →
    let input : RenderInput := ⟨offset, pocket.toNat, g.length, g.radius, g.grade, r.life, r.tool⟩
    (∀ block, render stored.steps input = .ok block → exec (.mount h tool pocket) s = .next
      (s.answered .mount h .ok
        ([natWord entry, natWord r.tool, natWord slot, natWord r.life, natWord g.grade] ++ blockWords block) []
        { s.hall with
          records := s.hall.records.put slot
            { r with status := .mounted, location := .pocket h.client.toNat pocket.toNat, outAge := 0,
                     overdue := false, dest := none }
          bindings := s.hall.bindings.put entry ⟨h.client.toNat, pocket.toNat, slot, false⟩ })) ∧
    (∀ e, render stored.steps input = .error e →
      exec (.mount h tool pocket) s = .next (s.answered .mount h .significance e.body [] s.hall))) ∧
  (∀ (h : Header) (pocket : Word) (entry : Nat) (b : Binding) (r : Record) (s : State), 1 ≤ pocket.toNat →
    pocket.toNat ≤ 240 → findBinding h.client.toNat pocket.toNat s.hall.bindings = some (entry, b) →
    s.hall.records.get b.slot = some r →
    (s.admits h .dismount → b.isProtected = false → exec (.dismount h pocket) s = .next
      (s.answered .dismount h .ok [natWord r.tool, natWord b.slot, natWord r.life, markWord r.ended] []
        { s.hall with
          records := s.hall.records.put b.slot { r with status := .out, location := .none }
          bindings := s.hall.bindings.del entry })) ∧
    (s.admits h .dismount → b.isProtected = true →
      exec (.dismount h pocket) s = .next (s.answered .dismount h .isProtected [] [] s.hall)) ∧
    (s.admits h .protect → exec (.protect h pocket) s = .next (s.answered .protect h .ok [natWord r.tool, 1] []
      { s.hall with bindings := s.hall.bindings.put entry { b with isProtected := true } })) ∧
    (s.admits h .unprotect → exec (.unprotect h pocket) s = .next (s.answered .unprotect h .ok [natWord r.tool, 0] []
      { s.hall with bindings := s.hall.bindings.put entry { b with isProtected := false } })))

/-- ADJUST adds the deltas to length and radius, grades the new length and keeps the measurement; a geometry that fails
its classification is BAND, a protected pocket PROTECTED. A MOUNTED tool's block goes to its machine by HANDOFF; a READY
tool whose grade changes is offered, and where none takes it nothing more changes (R134 to R138). -/
def Obligations.AdjustTrimsTheGeometry : Prop :=
  ∀ (h : Header) (tool dl dr : Word) (slot : Nat) (r : Record) (g : Geometry) (m : Measurement) (c : ClassEntry)
    (s : State), s.admits h .adjust → s.holds tool slot r → r.measured = some (g, m) →
    s.hall.classes.get r.cls = some c → -100000 ≤ dl.toInt → dl.toInt ≤ 100000 → -100000 ≤ dr.toInt →
    dr.toInt ≤ 100000 →
    let length := g.length + dl.toInt
    let radius := g.radius + dr.toInt
    let index := (length - c.shape.nominalLength - c.shape.gradeBase).fdiv c.shape.gradeStep
    let outside := decide (length < -9999999 ∨ 9999999 < length ∨ radius < -9999999 ∨ 9999999 < radius)
    let verdict := classify c.shape ⟨length, radius, g.runout, outside⟩
    let after : Geometry := ⟨length, radius, g.runout, index.toNat⟩
    let body := [natWord r.tool, natWord r.status.code, intWord g.length, intWord length, intWord g.radius,
      intWord radius, natWord g.grade, natWord index.toNat]
    (∀ cause, verdict = some cause → r.status = .ready ∨ r.status = .promised ∨ r.status = .out →
      exec (.adjust h tool dl dr) s =
        .next (s.answered .adjust h .band [natWord cause.code, intWord index] [] s.hall)) ∧
    (verdict = none → 0 ≤ index → index ≤ 15 →
      r.status = .promised ∨ r.status = .out ∨ (r.status = .ready ∧ (index.toNat = g.grade ∨ s.noTaker r.cls)) →
      exec (.adjust h tool dl dr) s = .next (s.answered .adjust h .ok body []
        { s.hall with records := s.hall.records.put slot { r with measured := some (after, m) } })) ∧
    (∀ entry b p pockets severity offset stored block, verdict = none → 0 ≤ index → index ≤ 15 → r.status = .mounted →
      bindingOfSlot slot s.hall.bindings = some (entry, b) → b.isProtected = false →
      s.hall.client b.client = .machine p pockets severity offset → s.hall.programs.get p.val = some stored →
      render stored.steps ⟨offset, b.pocket, length, radius, index.toNat, r.life, r.tool⟩ = .ok block →
      exec (.adjust h tool dl dr) s = .next (s.answered .adjust h .ok (body ++ [natWord b.client, natWord b.pocket])
        [⟨.handoff, BitVec.ofNat 8 b.client,
          [1, natWord b.pocket, natWord r.tool, natWord slot] ++ blockWords block⟩]
        { s.hall with records := s.hall.records.put slot { r with measured := some (after, m) } })) ∧
    (∀ entry b, r.status = .mounted → bindingOfSlot slot s.hall.bindings = some (entry, b) → b.isProtected = true →
      exec (.adjust h tool dl dr) s = .next (s.answered .adjust h .isProtected [] [] s.hall))

/-- RESEND-HANDOFF renders a bound tool again: to the machine itself the block is in the response; from the tool room it
goes to the machine by HANDOFF, unless the pocket is protected. Nothing else changes (R138, R139; the order of the
response, log 17). -/
def Obligations.ResendHandoffSendsTheBlock : Prop :=
  ∀ (h : Header) (pocket : Word) (machine entry : Nat) (b : Binding) (r : Record) (g : Geometry) (m : Measurement)
    (p : Fin 16) (pockets severity : Nat) (offset : Int) (stored : Program) (block : List Byte) (s : State),
    s.admits h .resendHandoff → 1 ≤ pocket.toNat → pocket.toNat ≤ 240 →
    findBinding machine pocket.toNat s.hall.bindings = some (entry, b) → s.hall.records.get b.slot = some r →
    r.measured = some (g, m) → s.hall.client machine = .machine p pockets severity offset →
    s.hall.programs.get p.val = some stored →
    render stored.steps ⟨offset, b.pocket, g.length, g.radius, g.grade, r.life, r.tool⟩ = .ok block →
    ((s.hall.client h.client.toNat).role = .machine → h.client.toNat = machine →
      exec (.resendHandoff h none pocket) s = .next (s.answered .resendHandoff h .ok
        (blockWords block ++ [natWord r.tool, natWord b.slot]) [] s.hall)) ∧
    (∀ client : Word, (s.hall.client h.client.toNat).role = .toolroom → client.toNat = machine → machine ≤ 63 →
      (b.isProtected = false → exec (.resendHandoff h (some client) pocket) s = .next (s.answered .resendHandoff h .ok
        [natWord r.tool, natWord b.slot, natWord block.length]
        [⟨.handoff, BitVec.ofNat 8 machine, [2, natWord b.pocket, natWord r.tool, natWord b.slot] ++ blockWords block⟩]
        s.hall)) ∧
      (b.isProtected = true → exec (.resendHandoff h (some client) pocket) s =
        .next (s.answered .resendHandoff h .isProtected [] [] s.hall)))

/-! ### Rendering programs (chapter 8) -/

/-- STORE-PROGRAM stores a program that passes its validation and answers its figures; one that fails is BAD-PROGRAM
with the step's index and the reason, and the entry is as it was. RENDER-TEST renders with the given offset and pocket 0
and changes nothing (R147, R151, R162; the order of its response, log 17). -/
def Obligations.ProgramsAreStoredAndTested : Prop :=
  (∀ (h : Header) (program : Byte) (bytes : List Byte) (p : Fin 16) (s : State), s.admits h .storeProgram →
    program.toNat = p.val → bytes.length ≤ 244 → kindBytesOk bytes = true →
    (∀ steps greatest, validate bytes = .ok (steps, greatest) → exec (.storeProgram h program bytes) s = .next
      (s.answered .storeProgram h .ok
        [natWord p.val, natWord steps.length, natWord bytes.length, natWord greatest,
          markWord (s.hall.programs.get p.val).isNone, natWord (machinesNaming p s.hall)] []
        { s.hall with programs := s.hall.programs.put p.val ⟨steps, bytes, greatest⟩ })) ∧
    (∀ index reason, validate bytes = .error (index, reason) → exec (.storeProgram h program bytes) s = .next
      (s.answered .storeProgram h .badProgram [natWord index, natWord reason.code] [] s.hall))) ∧
  (∀ (h : Header) (program tool offset : Word) (p : Fin 16) (slot : Nat) (r : Record) (g : Geometry) (m : Measurement)
    (stored : Program) (s : State), s.admits h .renderTest → program.toNat = p.val → s.holds tool slot r →
    r.measured = some (g, m) → -1000000 ≤ offset.toInt → offset.toInt ≤ 1000000 →
    s.hall.programs.get p.val = some stored →
    let input : RenderInput := ⟨offset.toInt, 0, g.length, g.radius, g.grade, r.life, r.tool⟩
    (∀ block, render stored.steps input = .ok block → exec (.renderTest h program tool offset) s = .next
      (s.answered .renderTest h .ok (blockWords block ++ [natWord block.length, natWord stored.greatest]) [] s.hall)) ∧
    (∀ e, render stored.steps input = .error e → exec (.renderTest h program tool offset) s = .next
      (s.answered .renderTest h .significance e.body [] s.hall)))

/-- A program that passes its validation has at most 48 steps in at most 192 bytes, its one END stands last, its
greatest output is at most 128, and no render of it, of any record, emits more characters than that greatest output or a
character other than a printable one, a line feed or a carriage return (R145, R149, R150, R161). -/
def Obligations.ValidatedProgramsRenderWithinTheBlock : Prop :=
  ∀ (bytes : List Byte) (steps : List Step) (greatest : Nat), validate bytes = .ok (steps, greatest) →
    steps.length ≤ 48 ∧ bytes.length ≤ 192 ∧ greatest ≤ 128 ∧
    (∃ before, steps = before ++ [.endStep] ∧ Step.endStep ∉ before) ∧
    ∀ (x : RenderInput) (block : List Byte), render steps x = .ok block →
      block.length ≤ greatest ∧
      ∀ ch ∈ block, (32 ≤ ch.toNat ∧ ch.toNat ≤ 126) ∨ ch.toNat = 10 ∨ ch.toNat = 13

/-! ### Tool life and the sweep (chapter 9) -/

/-- USAGE charges the amount times the severity over 64, rounded up. A tool without life is charged nothing; a charge
that leaves life sets the warned mark, with LIFE-WARN, when it first reaches the warn level; one that ends the life sets
both marks, the usable count falls and LIFE-END carries the outcome: none, a failed replacement with its flag, a ticket
in the wait queue, or the first tool of the chain that meets the ticket, promised to it (R97, R166 to R174; that the
fields an outcome does not name are left out of LIFE-END is the model's choice, log 25). -/
def Obligations.UsageChargesAndEndsLife : Prop :=
  ∀ (h : Header) (pocket amount : Word) (p : Fin 16) (pockets severity entry : Nat) (offset : Int) (b : Binding)
    (r : Record) (c : ClassEntry) (s : State), s.admits h .usage → 1 ≤ pocket.toNat → pocket.toNat ≤ 240 →
    amount.toNat ≤ 65535 → s.hall.client h.client.toNat = .machine p pockets severity offset →
    findBinding h.client.toNat pocket.toNat s.hall.bindings = some (entry, b) → s.hall.records.get b.slot = some r →
    s.hall.classes.get r.cls = some c →
    let consumed := (amount.toNat * severity + 63) / 64
    let body := fun x : Record => [pocket, natWord x.tool, natWord b.slot, natWord consumed, natWord x.life,
      markWord x.warned, markWord x.ended]
    let warns := 0 < c.policy.warnLevel ∧ r.life - consumed ≤ c.policy.warnLevel ∧ r.warned = false
    let ended := { r with life := 0, warned := true, ended := true }
    let fallen := { s.hall with
      records := s.hall.records.put b.slot ended
      classes := s.hall.classes.put r.cls (fallEntry c)
      flags := fallFlags c s.hall.flags }
    let lifeEnd := fun outcome : List Word => Notice.mk .lifeEnd h.client
      ([pocket, natWord r.tool, natWord b.slot, natWord r.cls, h.tag] ++ outcome)
    (r.life = 0 → exec (.usage h pocket amount) s = .next (s.answered .usage h .ok (body r) [] s.hall)) ∧
    (consumed < r.life → ¬warns → exec (.usage h pocket amount) s = .next (s.answered .usage h .ok
      (body { r with life := r.life - consumed }) []
      { s.hall with records := s.hall.records.put b.slot { r with life := r.life - consumed } })) ∧
    (consumed < r.life → warns → exec (.usage h pocket amount) s = .next (s.answered .usage h .ok
      (body { r with life := r.life - consumed, warned := true })
      [⟨.lifeWarn, h.client, [pocket, natWord r.tool, natWord b.slot, natWord r.cls, natWord (r.life - consumed),
        natWord c.policy.warnLevel, h.tag]⟩]
      { s.hall with records := s.hall.records.put b.slot { r with life := r.life - consumed, warned := true } })) ∧
    (0 < r.life → r.life ≤ consumed → c.policy.autoReplace = false → exec (.usage h pocket amount) s = .next
      (s.answered .usage h .ok (body ended) (lifeEnd [0] :: fallNotices r.cls c) fallen)) ∧
    (0 < r.life → r.life ≤ consumed → c.policy.autoReplace = true → s.hall.tickets.lowestFree 128 = none →
      exec (.usage h pocket amount) s = .next (s.answered .usage h .ok (body ended)
        (lifeEnd [3] :: fallNotices r.cls c) { fallen with flags := fallen.flags ||| 0x20#7 })) ∧
    let ticket : Ticket :=
      { status := .waiting, requester := h.client.toNat, tag := h.tag, origin := .auto, band := .stop, cls := r.cls,
        lowGrade := 0, highGrade := c.shape.topGrade, life := 1, specific := none, dest := some h.client.toNat,
        notify := true, age := 0 }
    let met := fun x : Record => x.grade ≤ c.shape.topGrade ∧ 1 ≤ x.life
    (∀ n slot x before later, 0 < r.life → r.life ≤ consumed → c.policy.autoReplace = true →
      s.hall.tickets.lowestFree 128 = some n → s.hall.mode = .online →
      s.hall.chains.list r.cls = before ++ slot :: later → fallen.records.get slot = some x → met x →
      (∀ y ∈ before, ∀ u, fallen.records.get y = some u → ¬met u) →
      exec (.usage h pocket amount) s = .next (s.answered .usage h .ok (body ended)
        (lifeEnd [1, natWord n, natWord x.tool, natWord slot, x.location.word, natWord x.grade, natWord x.life] ::
          fallNotices r.cls c)
        (promise n { ticket with status := .promised slot } slot x fallen).1)) ∧
    (∀ n, 0 < r.life → r.life ≤ consumed → c.policy.autoReplace = true → s.hall.tickets.lowestFree 128 = some n →
      s.hall.mode ≠ .online ∨ s.hall.chains.list r.cls = [] →
      let tickets := s.hall.tickets.put n ticket
      exec (.usage h pocket amount) s = .next (s.answered .usage h .ok (body ended)
        (lifeEnd [2, natWord n] :: fallNotices r.cls c)
        { fallen with
          tickets := tickets
          waitQueues := s.hall.waitQueues.putList r.cls
            (insertByBand tickets n 0 (s.hall.waitQueues.list r.cls)) }))

/-- A sweep begins a new interval, ages every measurement, holds each READY tool whose measurement has reached its
validity, counts the out age of each OUT tool and marks it overdue at the limit, and ages the waiting tickets, which
expire at the wait limit or are promoted at the promotion age; it offers nothing (R103, R175, R177 to R180). In a hall
that meets its law, the held tools leave their chains and usable counts; the notices are OVERDUE in slot order and one
LOW-STOCK for each class that becomes low, then EXPIRED in queue order, as far as the outbound queue holds them; their
flags are set; and a wait queue holds its STOP tickets, the promoted PLAN tickets, the other PLAN tickets and its STOCK
tickets, each in the order they stood (R34, R35, R103, R177 to R180, R190). -/
def Obligations.SweepAgesToolsAndTickets : Prop :=
  ∀ s : State, TablesLaw s.hall → (s.hall.waitQueues.flatMap Prod.snd).Nodup →
    let up := fun n : Nat => if n < 65535 then n + 1 else 65535
    ∃ t, exec .sweep s = .next t ∧
      t.hall.sweep = ⟨s.hall.sweep.period, s.hall.sweep.period, 0⟩ ∧
      (∀ slot, s.hall.records.get slot = none → t.hall.records.get slot = none) ∧
      (∀ slot r c, s.hall.records.get slot = some r → s.hall.classes.get r.cls = some c →
        let aged := { r with measured := r.measured.map fun x => (x.1, { x.2 with age := up x.2.age }) }
        let stale := ∃ g m, aged.measured = some (g, m) ∧ 0 < c.policy.validity ∧ c.policy.validity ≤ m.age
        let out := up r.outAge
        let late := 0 < c.policy.outLimit ∧ c.policy.outLimit ≤ out
        (r.status = .ready → stale → t.hall.records.get slot = some { aged with status := .held .stale }) ∧
        (r.status = .ready → ¬stale → t.hall.records.get slot = some aged) ∧
        (r.status = .out → late → t.hall.records.get slot = some { aged with outAge := out, overdue := true }) ∧
        (r.status = .out → ¬late → t.hall.records.get slot = some { aged with outAge := out }) ∧
        (r.status ≠ .ready → r.status ≠ .out → t.hall.records.get slot = some aged)) ∧
      (∀ n, n ∉ s.hall.waitQueues.flatMap Prod.snd → t.hall.tickets.get n = s.hall.tickets.get n) ∧
      (∀ n u c, n ∈ s.hall.waitQueues.flatMap Prod.snd → s.hall.tickets.get n = some u →
        s.hall.classes.get u.cls = some c →
        let age := up u.age
        let expires := 0 < c.policy.waitLimit ∧ c.policy.waitLimit ≤ age
        let promoted := u.band = .plan ∧ 0 < c.policy.promotionAge ∧ c.policy.promotionAge ≤ age
        (expires → t.hall.tickets.get n = none) ∧
        (¬expires → promoted → t.hall.tickets.get n = some { u with age := age, band := .stop }) ∧
        (¬expires → ¬promoted → t.hall.tickets.get n = some { u with age := age })) ∧
      t.hall.stations = s.hall.stations ∧ t.hall.channels = s.hall.channels ∧ t.hall.bindings = s.hall.bindings ∧
      t.hall.handover = s.hall.handover ∧ t.hall.index = s.hall.index ∧ t.hall.programs = s.hall.programs ∧
      t.hall.clients = s.hall.clients ∧ t.hall.mode = s.hall.mode ∧
      (HallLaw s.hall → s.roomFor 0 →
        let held := fun r : Record => decide (r.status = .ready ∧ ∃ c ∈ s.hall.classes.get r.cls, ∃ x ∈ r.measured,
          0 < c.policy.validity ∧ c.policy.validity ≤ up x.2.age)
        let lost := fun cls : Nat => s.hall.records.count fun r => held r && decide (r.cls = cls)
        let expired := fun n : Nat => decide (∃ u ∈ s.hall.tickets.get n, ∃ c ∈ s.hall.classes.get u.cls,
          0 < c.policy.waitLimit ∧ c.policy.waitLimit ≤ up u.age)
        let promoted := fun n : Nat => decide (∃ u ∈ s.hall.tickets.get n, ∃ c ∈ s.hall.classes.get u.cls,
          u.band = .plan ∧ 0 < c.policy.promotionAge ∧ c.policy.promotionAge ≤ up u.age)
        let inBand := fun (b : Band) (n : Nat) => decide (∃ u ∈ s.hall.tickets.get n, u.band = b)
        let overdue := s.hall.records.filterMap fun e => (s.hall.classes.get e.2.cls).bind fun c =>
          if e.2.status = .out ∧ e.2.overdue = false ∧ 0 < c.policy.outLimit ∧ c.policy.outLimit ≤ up e.2.outAge then
            some (Notice.mk .overdue 255#8 [natWord e.2.tool, natWord e.1, natWord e.2.cls, natWord (e.2.dest.getD 0),
              natWord (up e.2.outAge), natWord c.policy.outLimit])
          else none
        let low := s.hall.classes.filterMap fun e =>
          if e.2.low = false ∧ e.2.usable - lost e.1 < e.2.policy.minStock then
            some (Notice.mk .lowStock 255#8
              [natWord e.1, natWord (e.2.policy.minStock - 1), natWord e.2.policy.minStock])
          else none
        let ended := (s.hall.waitQueues.flatMap Prod.snd).filterMap fun n => (s.hall.tickets.get n).bind fun u =>
          if expired n then
            some (Notice.mk .expired (BitVec.ofNat 8 u.requester)
              [natWord n, u.tag, natWord u.cls, natWord u.band.code, natWord (up u.age)])
          else none
        (∀ cls, t.hall.chains.list cls = (s.hall.chains.list cls).filter fun slot =>
          decide (¬∃ r ∈ s.hall.records.get slot, held r = true)) ∧
        (∀ cls c, s.hall.classes.get cls = some c → t.hall.classes.get cls = some { c with
          usable := c.usable - lost cls, low := decide (c.usable - lost cls < c.policy.minStock) }) ∧
        (∀ cls, let queue := (s.hall.waitQueues.list cls).filter fun n => !expired n
          t.hall.waitQueues.list cls = queue.filter (inBand .stop) ++ queue.filter promoted ++
            queue.filter (fun n => inBand .plan n && !promoted n) ++ queue.filter (inBand .stock)) ∧
        ∃ lifeNotices : List Notice,
          lifeNotices.filter (fun x => decide (x.kind = .overdue)) = overdue ∧
          (lifeNotices.filter fun x => decide (x.kind ≠ .overdue)).Perm low ∧
          t.port.outbound =
            (s.port.outbound ++ (lifeNotices ++ ended).map OutMessage.notice).take (32 - s.port.kept) ∧
          t.hall.flags = s.hall.flags ||| (if overdue = [] then 0 else 0x10#7) ||| (if low = [] then 0 else 0x08#7) |||
            (if s.roomFor (lifeNotices ++ ended).length then 0 else 0x01#7))
end

