-- ==== Sys2Proof/Laws/State.lean ====
section
/-! SUPPORT. One lemma per field per update of the state, so that no proof unfolds a record update. -/

namespace Sys2Proof.Machine

/-! ### `putRecord` -/

@[simp] theorem putRecord_records (s : Hall) (slot : Nat) (r : Record) :
    (s.putRecord slot r).records = s.records.put slot r := rfl
@[simp] theorem putRecord_index (s : Hall) (slot : Nat) (r : Record) : (s.putRecord slot r).index = s.index := rfl
@[simp] theorem putRecord_chains (s : Hall) (slot : Nat) (r : Record) : (s.putRecord slot r).chains = s.chains := rfl
@[simp] theorem putRecord_classes (s : Hall) (slot : Nat) (r : Record) :
    (s.putRecord slot r).classes = s.classes := rfl
@[simp] theorem putRecord_stations (s : Hall) (slot : Nat) (r : Record) :
    (s.putRecord slot r).stations = s.stations := rfl
@[simp] theorem putRecord_tickets (s : Hall) (slot : Nat) (r : Record) :
    (s.putRecord slot r).tickets = s.tickets := rfl
@[simp] theorem putRecord_waitQueues (s : Hall) (slot : Nat) (r : Record) :
    (s.putRecord slot r).waitQueues = s.waitQueues := rfl
@[simp] theorem putRecord_mode (s : Hall) (slot : Nat) (r : Record) : (s.putRecord slot r).mode = s.mode := rfl
@[simp] theorem putRecord_channels (s : Hall) (slot : Nat) (r : Record) :
    (s.putRecord slot r).channels = s.channels := rfl
@[simp] theorem putRecord_handover (s : Hall) (slot : Nat) (r : Record) :
    (s.putRecord slot r).handover = s.handover := rfl
@[simp] theorem putRecord_bindings (s : Hall) (slot : Nat) (r : Record) :
    (s.putRecord slot r).bindings = s.bindings := rfl
@[simp] theorem putRecord_programs (s : Hall) (slot : Nat) (r : Record) :
    (s.putRecord slot r).programs = s.programs := rfl
@[simp] theorem putRecord_sweep (s : Hall) (slot : Nat) (r : Record) : (s.putRecord slot r).sweep = s.sweep := rfl
@[simp] theorem putRecord_clients (s : Hall) (slot : Nat) (r : Record) :
    (s.putRecord slot r).clients = s.clients := rfl
@[simp] theorem putRecord_flags (s : Hall) (slot : Nat) (r : Record) : (s.putRecord slot r).flags = s.flags := rfl
@[simp] theorem putRecord_enables (s : Hall) (slot : Nat) (r : Record) :
    (s.putRecord slot r).enables = s.enables := rfl
@[simp] theorem putRecord_startKind (s : Hall) (slot : Nat) (r : Record) :
    (s.putRecord slot r).startKind = s.startKind := rfl
@[simp] theorem putRecord_startCause (s : Hall) (slot : Nat) (r : Record) :
    (s.putRecord slot r).startCause = s.startCause := rfl
@[simp] theorem putRecord_freeIndex (s : Hall) (slot : Nat) (r : Record) :
    (s.putRecord slot r).freeIndex = s.freeIndex := rfl

/-! ### `putClass` -/

@[simp] theorem putClass_records (s : Hall) (cls : Nat) (c : ClassEntry) :
    (s.putClass cls c).records = s.records := rfl
@[simp] theorem putClass_index (s : Hall) (cls : Nat) (c : ClassEntry) : (s.putClass cls c).index = s.index := rfl
@[simp] theorem putClass_chains (s : Hall) (cls : Nat) (c : ClassEntry) : (s.putClass cls c).chains = s.chains := rfl
@[simp] theorem putClass_classes (s : Hall) (cls : Nat) (c : ClassEntry) :
    (s.putClass cls c).classes = s.classes.put cls c := rfl
@[simp] theorem putClass_stations (s : Hall) (cls : Nat) (c : ClassEntry) :
    (s.putClass cls c).stations = s.stations := rfl
@[simp] theorem putClass_tickets (s : Hall) (cls : Nat) (c : ClassEntry) :
    (s.putClass cls c).tickets = s.tickets := rfl
@[simp] theorem putClass_waitQueues (s : Hall) (cls : Nat) (c : ClassEntry) :
    (s.putClass cls c).waitQueues = s.waitQueues := rfl
@[simp] theorem putClass_mode (s : Hall) (cls : Nat) (c : ClassEntry) : (s.putClass cls c).mode = s.mode := rfl
@[simp] theorem putClass_channels (s : Hall) (cls : Nat) (c : ClassEntry) :
    (s.putClass cls c).channels = s.channels := rfl
@[simp] theorem putClass_handover (s : Hall) (cls : Nat) (c : ClassEntry) :
    (s.putClass cls c).handover = s.handover := rfl
@[simp] theorem putClass_bindings (s : Hall) (cls : Nat) (c : ClassEntry) :
    (s.putClass cls c).bindings = s.bindings := rfl
@[simp] theorem putClass_programs (s : Hall) (cls : Nat) (c : ClassEntry) :
    (s.putClass cls c).programs = s.programs := rfl
@[simp] theorem putClass_sweep (s : Hall) (cls : Nat) (c : ClassEntry) : (s.putClass cls c).sweep = s.sweep := rfl
@[simp] theorem putClass_clients (s : Hall) (cls : Nat) (c : ClassEntry) :
    (s.putClass cls c).clients = s.clients := rfl
@[simp] theorem putClass_flags (s : Hall) (cls : Nat) (c : ClassEntry) : (s.putClass cls c).flags = s.flags := rfl
@[simp] theorem putClass_enables (s : Hall) (cls : Nat) (c : ClassEntry) :
    (s.putClass cls c).enables = s.enables := rfl
@[simp] theorem putClass_startKind (s : Hall) (cls : Nat) (c : ClassEntry) :
    (s.putClass cls c).startKind = s.startKind := rfl
@[simp] theorem putClass_startCause (s : Hall) (cls : Nat) (c : ClassEntry) :
    (s.putClass cls c).startCause = s.startCause := rfl
@[simp] theorem putClass_freeIndex (s : Hall) (cls : Nat) (c : ClassEntry) :
    (s.putClass cls c).freeIndex = s.freeIndex := rfl

/-! ### `putTicket` -/

@[simp] theorem putTicket_records (s : Hall) (n : Nat) (t : Ticket) : (s.putTicket n t).records = s.records := rfl
@[simp] theorem putTicket_index (s : Hall) (n : Nat) (t : Ticket) : (s.putTicket n t).index = s.index := rfl
@[simp] theorem putTicket_chains (s : Hall) (n : Nat) (t : Ticket) : (s.putTicket n t).chains = s.chains := rfl
@[simp] theorem putTicket_classes (s : Hall) (n : Nat) (t : Ticket) : (s.putTicket n t).classes = s.classes := rfl
@[simp] theorem putTicket_stations (s : Hall) (n : Nat) (t : Ticket) : (s.putTicket n t).stations = s.stations := rfl
@[simp] theorem putTicket_tickets (s : Hall) (n : Nat) (t : Ticket) :
    (s.putTicket n t).tickets = s.tickets.put n t := rfl
@[simp] theorem putTicket_waitQueues (s : Hall) (n : Nat) (t : Ticket) :
    (s.putTicket n t).waitQueues = s.waitQueues := rfl
@[simp] theorem putTicket_mode (s : Hall) (n : Nat) (t : Ticket) : (s.putTicket n t).mode = s.mode := rfl
@[simp] theorem putTicket_channels (s : Hall) (n : Nat) (t : Ticket) : (s.putTicket n t).channels = s.channels := rfl
@[simp] theorem putTicket_handover (s : Hall) (n : Nat) (t : Ticket) : (s.putTicket n t).handover = s.handover := rfl
@[simp] theorem putTicket_bindings (s : Hall) (n : Nat) (t : Ticket) : (s.putTicket n t).bindings = s.bindings := rfl
@[simp] theorem putTicket_programs (s : Hall) (n : Nat) (t : Ticket) : (s.putTicket n t).programs = s.programs := rfl
@[simp] theorem putTicket_sweep (s : Hall) (n : Nat) (t : Ticket) : (s.putTicket n t).sweep = s.sweep := rfl
@[simp] theorem putTicket_clients (s : Hall) (n : Nat) (t : Ticket) : (s.putTicket n t).clients = s.clients := rfl
@[simp] theorem putTicket_flags (s : Hall) (n : Nat) (t : Ticket) : (s.putTicket n t).flags = s.flags := rfl
@[simp] theorem putTicket_enables (s : Hall) (n : Nat) (t : Ticket) : (s.putTicket n t).enables = s.enables := rfl
@[simp] theorem putTicket_startKind (s : Hall) (n : Nat) (t : Ticket) :
    (s.putTicket n t).startKind = s.startKind := rfl
@[simp] theorem putTicket_startCause (s : Hall) (n : Nat) (t : Ticket) :
    (s.putTicket n t).startCause = s.startCause := rfl
@[simp] theorem putTicket_freeIndex (s : Hall) (n : Nat) (t : Ticket) :
    (s.putTicket n t).freeIndex = s.freeIndex := rfl

/-! ### `freeTicket` -/

@[simp] theorem freeTicket_records (s : Hall) (n : Nat) : (s.freeTicket n).records = s.records := rfl
@[simp] theorem freeTicket_index (s : Hall) (n : Nat) : (s.freeTicket n).index = s.index := rfl
@[simp] theorem freeTicket_chains (s : Hall) (n : Nat) : (s.freeTicket n).chains = s.chains := rfl
@[simp] theorem freeTicket_classes (s : Hall) (n : Nat) : (s.freeTicket n).classes = s.classes := rfl
@[simp] theorem freeTicket_stations (s : Hall) (n : Nat) : (s.freeTicket n).stations = s.stations := rfl
@[simp] theorem freeTicket_tickets (s : Hall) (n : Nat) : (s.freeTicket n).tickets = s.tickets.del n := rfl
@[simp] theorem freeTicket_waitQueues (s : Hall) (n : Nat) : (s.freeTicket n).waitQueues = s.waitQueues := rfl
@[simp] theorem freeTicket_mode (s : Hall) (n : Nat) : (s.freeTicket n).mode = s.mode := rfl
@[simp] theorem freeTicket_channels (s : Hall) (n : Nat) : (s.freeTicket n).channels = s.channels := rfl
@[simp] theorem freeTicket_handover (s : Hall) (n : Nat) : (s.freeTicket n).handover = s.handover := rfl
@[simp] theorem freeTicket_bindings (s : Hall) (n : Nat) : (s.freeTicket n).bindings = s.bindings := rfl
@[simp] theorem freeTicket_programs (s : Hall) (n : Nat) : (s.freeTicket n).programs = s.programs := rfl
@[simp] theorem freeTicket_sweep (s : Hall) (n : Nat) : (s.freeTicket n).sweep = s.sweep := rfl
@[simp] theorem freeTicket_clients (s : Hall) (n : Nat) : (s.freeTicket n).clients = s.clients := rfl
@[simp] theorem freeTicket_flags (s : Hall) (n : Nat) : (s.freeTicket n).flags = s.flags := rfl
@[simp] theorem freeTicket_enables (s : Hall) (n : Nat) : (s.freeTicket n).enables = s.enables := rfl
@[simp] theorem freeTicket_startKind (s : Hall) (n : Nat) : (s.freeTicket n).startKind = s.startKind := rfl
@[simp] theorem freeTicket_startCause (s : Hall) (n : Nat) : (s.freeTicket n).startCause = s.startCause := rfl
@[simp] theorem freeTicket_freeIndex (s : Hall) (n : Nat) : (s.freeTicket n).freeIndex = s.freeIndex := rfl

/-! ### `setChannel` -/

@[simp] theorem setChannel_records (s : Hall) (c : Fin 16) (x : Channel) :
    (s.setChannel c x).records = s.records := rfl
@[simp] theorem setChannel_index (s : Hall) (c : Fin 16) (x : Channel) : (s.setChannel c x).index = s.index := rfl
@[simp] theorem setChannel_chains (s : Hall) (c : Fin 16) (x : Channel) : (s.setChannel c x).chains = s.chains := rfl
@[simp] theorem setChannel_classes (s : Hall) (c : Fin 16) (x : Channel) :
    (s.setChannel c x).classes = s.classes := rfl
@[simp] theorem setChannel_stations (s : Hall) (c : Fin 16) (x : Channel) :
    (s.setChannel c x).stations = s.stations := rfl
@[simp] theorem setChannel_tickets (s : Hall) (c : Fin 16) (x : Channel) :
    (s.setChannel c x).tickets = s.tickets := rfl
@[simp] theorem setChannel_waitQueues (s : Hall) (c : Fin 16) (x : Channel) :
    (s.setChannel c x).waitQueues = s.waitQueues := rfl
@[simp] theorem setChannel_mode (s : Hall) (c : Fin 16) (x : Channel) : (s.setChannel c x).mode = s.mode := rfl
@[simp] theorem setChannel_channels (s : Hall) (c : Fin 16) (x : Channel) :
    (s.setChannel c x).channels = s.channels.set c.val x c.isLt := rfl
@[simp] theorem setChannel_handover (s : Hall) (c : Fin 16) (x : Channel) :
    (s.setChannel c x).handover = s.handover := rfl
@[simp] theorem setChannel_bindings (s : Hall) (c : Fin 16) (x : Channel) :
    (s.setChannel c x).bindings = s.bindings := rfl
@[simp] theorem setChannel_programs (s : Hall) (c : Fin 16) (x : Channel) :
    (s.setChannel c x).programs = s.programs := rfl
@[simp] theorem setChannel_sweep (s : Hall) (c : Fin 16) (x : Channel) : (s.setChannel c x).sweep = s.sweep := rfl
@[simp] theorem setChannel_clients (s : Hall) (c : Fin 16) (x : Channel) :
    (s.setChannel c x).clients = s.clients := rfl
@[simp] theorem setChannel_flags (s : Hall) (c : Fin 16) (x : Channel) : (s.setChannel c x).flags = s.flags := rfl
@[simp] theorem setChannel_enables (s : Hall) (c : Fin 16) (x : Channel) :
    (s.setChannel c x).enables = s.enables := rfl
@[simp] theorem setChannel_startKind (s : Hall) (c : Fin 16) (x : Channel) :
    (s.setChannel c x).startKind = s.startKind := rfl
@[simp] theorem setChannel_startCause (s : Hall) (c : Fin 16) (x : Channel) :
    (s.setChannel c x).startCause = s.startCause := rfl
@[simp] theorem setChannel_freeIndex (s : Hall) (c : Fin 16) (x : Channel) :
    (s.setChannel c x).freeIndex = s.freeIndex := rfl

/-! ### `setStation` -/

@[simp] theorem setStation_records (s : Hall) (n : Fin 4) (x : Station) :
    (s.setStation n x).records = s.records := rfl
@[simp] theorem setStation_index (s : Hall) (n : Fin 4) (x : Station) : (s.setStation n x).index = s.index := rfl
@[simp] theorem setStation_chains (s : Hall) (n : Fin 4) (x : Station) : (s.setStation n x).chains = s.chains := rfl
@[simp] theorem setStation_classes (s : Hall) (n : Fin 4) (x : Station) :
    (s.setStation n x).classes = s.classes := rfl
@[simp] theorem setStation_stations (s : Hall) (n : Fin 4) (x : Station) :
    (s.setStation n x).stations = s.stations.set n.val x n.isLt := rfl
@[simp] theorem setStation_tickets (s : Hall) (n : Fin 4) (x : Station) :
    (s.setStation n x).tickets = s.tickets := rfl
@[simp] theorem setStation_waitQueues (s : Hall) (n : Fin 4) (x : Station) :
    (s.setStation n x).waitQueues = s.waitQueues := rfl
@[simp] theorem setStation_mode (s : Hall) (n : Fin 4) (x : Station) : (s.setStation n x).mode = s.mode := rfl
@[simp] theorem setStation_channels (s : Hall) (n : Fin 4) (x : Station) :
    (s.setStation n x).channels = s.channels := rfl
@[simp] theorem setStation_handover (s : Hall) (n : Fin 4) (x : Station) :
    (s.setStation n x).handover = s.handover := rfl
@[simp] theorem setStation_bindings (s : Hall) (n : Fin 4) (x : Station) :
    (s.setStation n x).bindings = s.bindings := rfl
@[simp] theorem setStation_programs (s : Hall) (n : Fin 4) (x : Station) :
    (s.setStation n x).programs = s.programs := rfl
@[simp] theorem setStation_sweep (s : Hall) (n : Fin 4) (x : Station) : (s.setStation n x).sweep = s.sweep := rfl
@[simp] theorem setStation_clients (s : Hall) (n : Fin 4) (x : Station) :
    (s.setStation n x).clients = s.clients := rfl
@[simp] theorem setStation_flags (s : Hall) (n : Fin 4) (x : Station) : (s.setStation n x).flags = s.flags := rfl
@[simp] theorem setStation_enables (s : Hall) (n : Fin 4) (x : Station) :
    (s.setStation n x).enables = s.enables := rfl
@[simp] theorem setStation_startKind (s : Hall) (n : Fin 4) (x : Station) :
    (s.setStation n x).startKind = s.startKind := rfl
@[simp] theorem setStation_startCause (s : Hall) (n : Fin 4) (x : Station) :
    (s.setStation n x).startCause = s.startCause := rfl
@[simp] theorem setStation_freeIndex (s : Hall) (n : Fin 4) (x : Station) :
    (s.setStation n x).freeIndex = s.freeIndex := rfl

/-! ### `setFlag` -/

@[simp] theorem setFlag_records (s : Hall) (f : Flag) : (setFlag f s).records = s.records := rfl
@[simp] theorem setFlag_index (s : Hall) (f : Flag) : (setFlag f s).index = s.index := rfl
@[simp] theorem setFlag_chains (s : Hall) (f : Flag) : (setFlag f s).chains = s.chains := rfl
@[simp] theorem setFlag_classes (s : Hall) (f : Flag) : (setFlag f s).classes = s.classes := rfl
@[simp] theorem setFlag_stations (s : Hall) (f : Flag) : (setFlag f s).stations = s.stations := rfl
@[simp] theorem setFlag_tickets (s : Hall) (f : Flag) : (setFlag f s).tickets = s.tickets := rfl
@[simp] theorem setFlag_waitQueues (s : Hall) (f : Flag) : (setFlag f s).waitQueues = s.waitQueues := rfl
@[simp] theorem setFlag_mode (s : Hall) (f : Flag) : (setFlag f s).mode = s.mode := rfl
@[simp] theorem setFlag_channels (s : Hall) (f : Flag) : (setFlag f s).channels = s.channels := rfl
@[simp] theorem setFlag_handover (s : Hall) (f : Flag) : (setFlag f s).handover = s.handover := rfl
@[simp] theorem setFlag_bindings (s : Hall) (f : Flag) : (setFlag f s).bindings = s.bindings := rfl
@[simp] theorem setFlag_programs (s : Hall) (f : Flag) : (setFlag f s).programs = s.programs := rfl
@[simp] theorem setFlag_sweep (s : Hall) (f : Flag) : (setFlag f s).sweep = s.sweep := rfl
@[simp] theorem setFlag_clients (s : Hall) (f : Flag) : (setFlag f s).clients = s.clients := rfl
@[simp] theorem setFlag_flags (s : Hall) (f : Flag) : (setFlag f s).flags = s.flags ||| f.mask := rfl
@[simp] theorem setFlag_enables (s : Hall) (f : Flag) : (setFlag f s).enables = s.enables := rfl
@[simp] theorem setFlag_startKind (s : Hall) (f : Flag) : (setFlag f s).startKind = s.startKind := rfl
@[simp] theorem setFlag_startCause (s : Hall) (f : Flag) : (setFlag f s).startCause = s.startCause := rfl
@[simp] theorem setFlag_freeIndex (s : Hall) (f : Flag) : (setFlag f s).freeIndex = s.freeIndex := rfl

/-! ### `clearFlags` -/

@[simp] theorem clearFlags_records (s : Hall) (choice : BitVec 7) : (clearFlags choice s).records = s.records := rfl
@[simp] theorem clearFlags_index (s : Hall) (choice : BitVec 7) : (clearFlags choice s).index = s.index := rfl
@[simp] theorem clearFlags_chains (s : Hall) (choice : BitVec 7) : (clearFlags choice s).chains = s.chains := rfl
@[simp] theorem clearFlags_classes (s : Hall) (choice : BitVec 7) : (clearFlags choice s).classes = s.classes := rfl
@[simp] theorem clearFlags_stations (s : Hall) (choice : BitVec 7) :
    (clearFlags choice s).stations = s.stations := rfl
@[simp] theorem clearFlags_tickets (s : Hall) (choice : BitVec 7) : (clearFlags choice s).tickets = s.tickets := rfl
@[simp] theorem clearFlags_waitQueues (s : Hall) (choice : BitVec 7) :
    (clearFlags choice s).waitQueues = s.waitQueues := rfl
@[simp] theorem clearFlags_mode (s : Hall) (choice : BitVec 7) : (clearFlags choice s).mode = s.mode := rfl
@[simp] theorem clearFlags_channels (s : Hall) (choice : BitVec 7) :
    (clearFlags choice s).channels = s.channels := rfl
@[simp] theorem clearFlags_handover (s : Hall) (choice : BitVec 7) :
    (clearFlags choice s).handover = s.handover := rfl
@[simp] theorem clearFlags_bindings (s : Hall) (choice : BitVec 7) :
    (clearFlags choice s).bindings = s.bindings := rfl
@[simp] theorem clearFlags_programs (s : Hall) (choice : BitVec 7) :
    (clearFlags choice s).programs = s.programs := rfl
@[simp] theorem clearFlags_sweep (s : Hall) (choice : BitVec 7) : (clearFlags choice s).sweep = s.sweep := rfl
@[simp] theorem clearFlags_clients (s : Hall) (choice : BitVec 7) : (clearFlags choice s).clients = s.clients := rfl
@[simp] theorem clearFlags_flags (s : Hall) (choice : BitVec 7) :
    (clearFlags choice s).flags = s.flags &&& ~~~choice := rfl
@[simp] theorem clearFlags_enables (s : Hall) (choice : BitVec 7) : (clearFlags choice s).enables = s.enables := rfl
@[simp] theorem clearFlags_startKind (s : Hall) (choice : BitVec 7) :
    (clearFlags choice s).startKind = s.startKind := rfl
@[simp] theorem clearFlags_startCause (s : Hall) (choice : BitVec 7) :
    (clearFlags choice s).startCause = s.startCause := rfl
@[simp] theorem clearFlags_freeIndex (s : Hall) (choice : BitVec 7) :
    (clearFlags choice s).freeIndex = s.freeIndex := rfl

/-! ### `joinChain` -/

@[simp] theorem joinChain_records (s : Hall) (slot : Nat) (r : Record) :
    (joinChain slot r s).records = s.records := rfl
@[simp] theorem joinChain_index (s : Hall) (slot : Nat) (r : Record) : (joinChain slot r s).index = s.index := rfl
@[simp] theorem joinChain_chains (s : Hall) (slot : Nat) (r : Record) :
    (joinChain slot r s).chains = s.chains.putList r.cls (chainInsert s.records slot r (s.chains.list r.cls)) := rfl
@[simp] theorem joinChain_classes (s : Hall) (slot : Nat) (r : Record) :
    (joinChain slot r s).classes = s.classes := rfl
@[simp] theorem joinChain_stations (s : Hall) (slot : Nat) (r : Record) :
    (joinChain slot r s).stations = s.stations := rfl
@[simp] theorem joinChain_tickets (s : Hall) (slot : Nat) (r : Record) :
    (joinChain slot r s).tickets = s.tickets := rfl
@[simp] theorem joinChain_waitQueues (s : Hall) (slot : Nat) (r : Record) :
    (joinChain slot r s).waitQueues = s.waitQueues := rfl
@[simp] theorem joinChain_mode (s : Hall) (slot : Nat) (r : Record) : (joinChain slot r s).mode = s.mode := rfl
@[simp] theorem joinChain_channels (s : Hall) (slot : Nat) (r : Record) :
    (joinChain slot r s).channels = s.channels := rfl
@[simp] theorem joinChain_handover (s : Hall) (slot : Nat) (r : Record) :
    (joinChain slot r s).handover = s.handover := rfl
@[simp] theorem joinChain_bindings (s : Hall) (slot : Nat) (r : Record) :
    (joinChain slot r s).bindings = s.bindings := rfl
@[simp] theorem joinChain_programs (s : Hall) (slot : Nat) (r : Record) :
    (joinChain slot r s).programs = s.programs := rfl
@[simp] theorem joinChain_sweep (s : Hall) (slot : Nat) (r : Record) : (joinChain slot r s).sweep = s.sweep := rfl
@[simp] theorem joinChain_clients (s : Hall) (slot : Nat) (r : Record) :
    (joinChain slot r s).clients = s.clients := rfl
@[simp] theorem joinChain_flags (s : Hall) (slot : Nat) (r : Record) : (joinChain slot r s).flags = s.flags := rfl
@[simp] theorem joinChain_enables (s : Hall) (slot : Nat) (r : Record) :
    (joinChain slot r s).enables = s.enables := rfl
@[simp] theorem joinChain_startKind (s : Hall) (slot : Nat) (r : Record) :
    (joinChain slot r s).startKind = s.startKind := rfl
@[simp] theorem joinChain_startCause (s : Hall) (slot : Nat) (r : Record) :
    (joinChain slot r s).startCause = s.startCause := rfl
@[simp] theorem joinChain_freeIndex (s : Hall) (slot : Nat) (r : Record) :
    (joinChain slot r s).freeIndex = s.freeIndex := rfl

/-! ### `leaveChain` -/

@[simp] theorem leaveChain_records (s : Hall) (slot cls : Nat) : (leaveChain slot cls s).records = s.records := rfl
@[simp] theorem leaveChain_index (s : Hall) (slot cls : Nat) : (leaveChain slot cls s).index = s.index := rfl
@[simp] theorem leaveChain_chains (s : Hall) (slot cls : Nat) :
    (leaveChain slot cls s).chains = s.chains.putList cls ((s.chains.list cls).filter fun x => x != slot) := rfl
@[simp] theorem leaveChain_classes (s : Hall) (slot cls : Nat) : (leaveChain slot cls s).classes = s.classes := rfl
@[simp] theorem leaveChain_stations (s : Hall) (slot cls : Nat) : (leaveChain slot cls s).stations = s.stations := rfl
@[simp] theorem leaveChain_tickets (s : Hall) (slot cls : Nat) : (leaveChain slot cls s).tickets = s.tickets := rfl
@[simp] theorem leaveChain_waitQueues (s : Hall) (slot cls : Nat) :
    (leaveChain slot cls s).waitQueues = s.waitQueues := rfl
@[simp] theorem leaveChain_mode (s : Hall) (slot cls : Nat) : (leaveChain slot cls s).mode = s.mode := rfl
@[simp] theorem leaveChain_channels (s : Hall) (slot cls : Nat) : (leaveChain slot cls s).channels = s.channels := rfl
@[simp] theorem leaveChain_handover (s : Hall) (slot cls : Nat) : (leaveChain slot cls s).handover = s.handover := rfl
@[simp] theorem leaveChain_bindings (s : Hall) (slot cls : Nat) : (leaveChain slot cls s).bindings = s.bindings := rfl
@[simp] theorem leaveChain_programs (s : Hall) (slot cls : Nat) : (leaveChain slot cls s).programs = s.programs := rfl
@[simp] theorem leaveChain_sweep (s : Hall) (slot cls : Nat) : (leaveChain slot cls s).sweep = s.sweep := rfl
@[simp] theorem leaveChain_clients (s : Hall) (slot cls : Nat) : (leaveChain slot cls s).clients = s.clients := rfl
@[simp] theorem leaveChain_flags (s : Hall) (slot cls : Nat) : (leaveChain slot cls s).flags = s.flags := rfl
@[simp] theorem leaveChain_enables (s : Hall) (slot cls : Nat) : (leaveChain slot cls s).enables = s.enables := rfl
@[simp] theorem leaveChain_startKind (s : Hall) (slot cls : Nat) :
    (leaveChain slot cls s).startKind = s.startKind := rfl
@[simp] theorem leaveChain_startCause (s : Hall) (slot cls : Nat) :
    (leaveChain slot cls s).startCause = s.startCause := rfl
@[simp] theorem leaveChain_freeIndex (s : Hall) (slot cls : Nat) :
    (leaveChain slot cls s).freeIndex = s.freeIndex := rfl

/-! ### `joinWaitQueue` -/

@[simp] theorem joinWaitQueue_records (s : Hall) (n : Nat) (t : Ticket) :
    (joinWaitQueue n t s).records = s.records := rfl
@[simp] theorem joinWaitQueue_index (s : Hall) (n : Nat) (t : Ticket) : (joinWaitQueue n t s).index = s.index := rfl
@[simp] theorem joinWaitQueue_chains (s : Hall) (n : Nat) (t : Ticket) :
    (joinWaitQueue n t s).chains = s.chains := rfl
@[simp] theorem joinWaitQueue_classes (s : Hall) (n : Nat) (t : Ticket) :
    (joinWaitQueue n t s).classes = s.classes := rfl
@[simp] theorem joinWaitQueue_stations (s : Hall) (n : Nat) (t : Ticket) :
    (joinWaitQueue n t s).stations = s.stations := rfl
@[simp] theorem joinWaitQueue_tickets (s : Hall) (n : Nat) (t : Ticket) :
    (joinWaitQueue n t s).tickets = s.tickets := rfl
@[simp] theorem joinWaitQueue_waitQueues (s : Hall) (n : Nat) (t : Ticket) :
    (joinWaitQueue n t s).waitQueues = s.waitQueues.putList t.cls (insertByBand s.tickets n (bandRank t.band) (s.waitQueues.list t.cls)) := rfl
@[simp] theorem joinWaitQueue_mode (s : Hall) (n : Nat) (t : Ticket) : (joinWaitQueue n t s).mode = s.mode := rfl
@[simp] theorem joinWaitQueue_channels (s : Hall) (n : Nat) (t : Ticket) :
    (joinWaitQueue n t s).channels = s.channels := rfl
@[simp] theorem joinWaitQueue_handover (s : Hall) (n : Nat) (t : Ticket) :
    (joinWaitQueue n t s).handover = s.handover := rfl
@[simp] theorem joinWaitQueue_bindings (s : Hall) (n : Nat) (t : Ticket) :
    (joinWaitQueue n t s).bindings = s.bindings := rfl
@[simp] theorem joinWaitQueue_programs (s : Hall) (n : Nat) (t : Ticket) :
    (joinWaitQueue n t s).programs = s.programs := rfl
@[simp] theorem joinWaitQueue_sweep (s : Hall) (n : Nat) (t : Ticket) : (joinWaitQueue n t s).sweep = s.sweep := rfl
@[simp] theorem joinWaitQueue_clients (s : Hall) (n : Nat) (t : Ticket) :
    (joinWaitQueue n t s).clients = s.clients := rfl
@[simp] theorem joinWaitQueue_flags (s : Hall) (n : Nat) (t : Ticket) : (joinWaitQueue n t s).flags = s.flags := rfl
@[simp] theorem joinWaitQueue_enables (s : Hall) (n : Nat) (t : Ticket) :
    (joinWaitQueue n t s).enables = s.enables := rfl
@[simp] theorem joinWaitQueue_startKind (s : Hall) (n : Nat) (t : Ticket) :
    (joinWaitQueue n t s).startKind = s.startKind := rfl
@[simp] theorem joinWaitQueue_startCause (s : Hall) (n : Nat) (t : Ticket) :
    (joinWaitQueue n t s).startCause = s.startCause := rfl
@[simp] theorem joinWaitQueue_freeIndex (s : Hall) (n : Nat) (t : Ticket) :
    (joinWaitQueue n t s).freeIndex = s.freeIndex := rfl

/-! ### `leaveWaitQueue` -/

@[simp] theorem leaveWaitQueue_records (s : Hall) (n cls : Nat) : (leaveWaitQueue n cls s).records = s.records := rfl
@[simp] theorem leaveWaitQueue_index (s : Hall) (n cls : Nat) : (leaveWaitQueue n cls s).index = s.index := rfl
@[simp] theorem leaveWaitQueue_chains (s : Hall) (n cls : Nat) : (leaveWaitQueue n cls s).chains = s.chains := rfl
@[simp] theorem leaveWaitQueue_classes (s : Hall) (n cls : Nat) : (leaveWaitQueue n cls s).classes = s.classes := rfl
@[simp] theorem leaveWaitQueue_stations (s : Hall) (n cls : Nat) :
    (leaveWaitQueue n cls s).stations = s.stations := rfl
@[simp] theorem leaveWaitQueue_tickets (s : Hall) (n cls : Nat) : (leaveWaitQueue n cls s).tickets = s.tickets := rfl
@[simp] theorem leaveWaitQueue_waitQueues (s : Hall) (n cls : Nat) :
    (leaveWaitQueue n cls s).waitQueues = s.waitQueues.putList cls ((s.waitQueues.list cls).filter fun x => x != n) := rfl
@[simp] theorem leaveWaitQueue_mode (s : Hall) (n cls : Nat) : (leaveWaitQueue n cls s).mode = s.mode := rfl
@[simp] theorem leaveWaitQueue_channels (s : Hall) (n cls : Nat) :
    (leaveWaitQueue n cls s).channels = s.channels := rfl
@[simp] theorem leaveWaitQueue_handover (s : Hall) (n cls : Nat) :
    (leaveWaitQueue n cls s).handover = s.handover := rfl
@[simp] theorem leaveWaitQueue_bindings (s : Hall) (n cls : Nat) :
    (leaveWaitQueue n cls s).bindings = s.bindings := rfl
@[simp] theorem leaveWaitQueue_programs (s : Hall) (n cls : Nat) :
    (leaveWaitQueue n cls s).programs = s.programs := rfl
@[simp] theorem leaveWaitQueue_sweep (s : Hall) (n cls : Nat) : (leaveWaitQueue n cls s).sweep = s.sweep := rfl
@[simp] theorem leaveWaitQueue_clients (s : Hall) (n cls : Nat) : (leaveWaitQueue n cls s).clients = s.clients := rfl
@[simp] theorem leaveWaitQueue_flags (s : Hall) (n cls : Nat) : (leaveWaitQueue n cls s).flags = s.flags := rfl
@[simp] theorem leaveWaitQueue_enables (s : Hall) (n cls : Nat) : (leaveWaitQueue n cls s).enables = s.enables := rfl
@[simp] theorem leaveWaitQueue_startKind (s : Hall) (n cls : Nat) :
    (leaveWaitQueue n cls s).startKind = s.startKind := rfl
@[simp] theorem leaveWaitQueue_startCause (s : Hall) (n cls : Nat) :
    (leaveWaitQueue n cls s).startCause = s.startCause := rfl
@[simp] theorem leaveWaitQueue_freeIndex (s : Hall) (n cls : Nat) :
    (leaveWaitQueue n cls s).freeIndex = s.freeIndex := rfl

/-! ### `freeRecord` -/

@[simp] theorem freeRecord_records (s : Hall) (slot tool : Nat) :
    (freeRecord slot tool s).records = s.records.del slot := rfl
@[simp] theorem freeRecord_index (s : Hall) (slot tool : Nat) :
    (freeRecord slot tool s).index = s.index.del tool := rfl
@[simp] theorem freeRecord_chains (s : Hall) (slot tool : Nat) : (freeRecord slot tool s).chains = s.chains := rfl
@[simp] theorem freeRecord_classes (s : Hall) (slot tool : Nat) : (freeRecord slot tool s).classes = s.classes := rfl
@[simp] theorem freeRecord_stations (s : Hall) (slot tool : Nat) :
    (freeRecord slot tool s).stations = s.stations := rfl
@[simp] theorem freeRecord_tickets (s : Hall) (slot tool : Nat) : (freeRecord slot tool s).tickets = s.tickets := rfl
@[simp] theorem freeRecord_waitQueues (s : Hall) (slot tool : Nat) :
    (freeRecord slot tool s).waitQueues = s.waitQueues := rfl
@[simp] theorem freeRecord_mode (s : Hall) (slot tool : Nat) : (freeRecord slot tool s).mode = s.mode := rfl
@[simp] theorem freeRecord_channels (s : Hall) (slot tool : Nat) :
    (freeRecord slot tool s).channels = s.channels := rfl
@[simp] theorem freeRecord_handover (s : Hall) (slot tool : Nat) :
    (freeRecord slot tool s).handover = s.handover := rfl
@[simp] theorem freeRecord_bindings (s : Hall) (slot tool : Nat) :
    (freeRecord slot tool s).bindings = s.bindings := rfl
@[simp] theorem freeRecord_programs (s : Hall) (slot tool : Nat) :
    (freeRecord slot tool s).programs = s.programs := rfl
@[simp] theorem freeRecord_sweep (s : Hall) (slot tool : Nat) : (freeRecord slot tool s).sweep = s.sweep := rfl
@[simp] theorem freeRecord_clients (s : Hall) (slot tool : Nat) : (freeRecord slot tool s).clients = s.clients := rfl
@[simp] theorem freeRecord_flags (s : Hall) (slot tool : Nat) : (freeRecord slot tool s).flags = s.flags := rfl
@[simp] theorem freeRecord_enables (s : Hall) (slot tool : Nat) : (freeRecord slot tool s).enables = s.enables := rfl
@[simp] theorem freeRecord_startKind (s : Hall) (slot tool : Nat) :
    (freeRecord slot tool s).startKind = s.startKind := rfl
@[simp] theorem freeRecord_startCause (s : Hall) (slot tool : Nat) :
    (freeRecord slot tool s).startCause = s.startCause := rfl
@[simp] theorem freeRecord_freeIndex (s : Hall) (slot tool : Nat) :
    (freeRecord slot tool s).freeIndex = s.freeIndex := rfl

/-! ### `newInterval` -/

@[simp] theorem newInterval_records (s : Hall) : (newInterval s).records = s.records := rfl
@[simp] theorem newInterval_index (s : Hall) : (newInterval s).index = s.index := rfl
@[simp] theorem newInterval_chains (s : Hall) : (newInterval s).chains = s.chains := rfl
@[simp] theorem newInterval_classes (s : Hall) : (newInterval s).classes = s.classes := rfl
@[simp] theorem newInterval_stations (s : Hall) : (newInterval s).stations = s.stations := rfl
@[simp] theorem newInterval_tickets (s : Hall) : (newInterval s).tickets = s.tickets := rfl
@[simp] theorem newInterval_waitQueues (s : Hall) : (newInterval s).waitQueues = s.waitQueues := rfl
@[simp] theorem newInterval_mode (s : Hall) : (newInterval s).mode = s.mode := rfl
@[simp] theorem newInterval_channels (s : Hall) : (newInterval s).channels = s.channels := rfl
@[simp] theorem newInterval_handover (s : Hall) : (newInterval s).handover = s.handover := rfl
@[simp] theorem newInterval_bindings (s : Hall) : (newInterval s).bindings = s.bindings := rfl
@[simp] theorem newInterval_programs (s : Hall) : (newInterval s).programs = s.programs := rfl
@[simp] theorem newInterval_sweep (s : Hall) : (newInterval s).sweep = ⟨s.sweep.period, s.sweep.period, 0⟩ := rfl
@[simp] theorem newInterval_clients (s : Hall) : (newInterval s).clients = s.clients := rfl
@[simp] theorem newInterval_flags (s : Hall) : (newInterval s).flags = s.flags := rfl
@[simp] theorem newInterval_enables (s : Hall) : (newInterval s).enables = s.enables := rfl
@[simp] theorem newInterval_startKind (s : Hall) : (newInterval s).startKind = s.startKind := rfl
@[simp] theorem newInterval_startCause (s : Hall) : (newInterval s).startCause = s.startCause := rfl
@[simp] theorem newInterval_freeIndex (s : Hall) : (newInterval s).freeIndex = s.freeIndex := rfl

/-! ### `leaveChannelQueue` -/

@[simp] theorem leaveChannelQueue_records (s : Hall) (n : Nat) (c : Fin 16) :
    (leaveChannelQueue n c s).records = s.records := rfl
@[simp] theorem leaveChannelQueue_index (s : Hall) (n : Nat) (c : Fin 16) :
    (leaveChannelQueue n c s).index = s.index := rfl
@[simp] theorem leaveChannelQueue_chains (s : Hall) (n : Nat) (c : Fin 16) :
    (leaveChannelQueue n c s).chains = s.chains := rfl
@[simp] theorem leaveChannelQueue_classes (s : Hall) (n : Nat) (c : Fin 16) :
    (leaveChannelQueue n c s).classes = s.classes := rfl
@[simp] theorem leaveChannelQueue_stations (s : Hall) (n : Nat) (c : Fin 16) :
    (leaveChannelQueue n c s).stations = s.stations := rfl
@[simp] theorem leaveChannelQueue_tickets (s : Hall) (n : Nat) (c : Fin 16) :
    (leaveChannelQueue n c s).tickets = s.tickets := rfl
@[simp] theorem leaveChannelQueue_waitQueues (s : Hall) (n : Nat) (c : Fin 16) :
    (leaveChannelQueue n c s).waitQueues = s.waitQueues := rfl
@[simp] theorem leaveChannelQueue_mode (s : Hall) (n : Nat) (c : Fin 16) :
    (leaveChannelQueue n c s).mode = s.mode := rfl
@[simp] theorem leaveChannelQueue_handover (s : Hall) (n : Nat) (c : Fin 16) :
    (leaveChannelQueue n c s).handover = s.handover := rfl
@[simp] theorem leaveChannelQueue_bindings (s : Hall) (n : Nat) (c : Fin 16) :
    (leaveChannelQueue n c s).bindings = s.bindings := rfl
@[simp] theorem leaveChannelQueue_programs (s : Hall) (n : Nat) (c : Fin 16) :
    (leaveChannelQueue n c s).programs = s.programs := rfl
@[simp] theorem leaveChannelQueue_sweep (s : Hall) (n : Nat) (c : Fin 16) :
    (leaveChannelQueue n c s).sweep = s.sweep := rfl
@[simp] theorem leaveChannelQueue_clients (s : Hall) (n : Nat) (c : Fin 16) :
    (leaveChannelQueue n c s).clients = s.clients := rfl
@[simp] theorem leaveChannelQueue_flags (s : Hall) (n : Nat) (c : Fin 16) :
    (leaveChannelQueue n c s).flags = s.flags := rfl
@[simp] theorem leaveChannelQueue_enables (s : Hall) (n : Nat) (c : Fin 16) :
    (leaveChannelQueue n c s).enables = s.enables := rfl
@[simp] theorem leaveChannelQueue_startKind (s : Hall) (n : Nat) (c : Fin 16) :
    (leaveChannelQueue n c s).startKind = s.startKind := rfl
@[simp] theorem leaveChannelQueue_startCause (s : Hall) (n : Nat) (c : Fin 16) :
    (leaveChannelQueue n c s).startCause = s.startCause := rfl
@[simp] theorem leaveChannelQueue_freeIndex (s : Hall) (n : Nat) (c : Fin 16) :
    (leaveChannelQueue n c s).freeIndex = s.freeIndex := rfl

/-! ### `endCycle` -/

@[simp] theorem endCycle_records (s : Hall) (n : Nat) (c : Fin 16) : (endCycle n c s).records = s.records := rfl
@[simp] theorem endCycle_index (s : Hall) (n : Nat) (c : Fin 16) : (endCycle n c s).index = s.index := rfl
@[simp] theorem endCycle_chains (s : Hall) (n : Nat) (c : Fin 16) : (endCycle n c s).chains = s.chains := rfl
@[simp] theorem endCycle_classes (s : Hall) (n : Nat) (c : Fin 16) : (endCycle n c s).classes = s.classes := rfl
@[simp] theorem endCycle_stations (s : Hall) (n : Nat) (c : Fin 16) : (endCycle n c s).stations = s.stations := rfl
@[simp] theorem endCycle_tickets (s : Hall) (n : Nat) (c : Fin 16) : (endCycle n c s).tickets = s.tickets := rfl
@[simp] theorem endCycle_waitQueues (s : Hall) (n : Nat) (c : Fin 16) :
    (endCycle n c s).waitQueues = s.waitQueues := rfl
@[simp] theorem endCycle_mode (s : Hall) (n : Nat) (c : Fin 16) : (endCycle n c s).mode = s.mode := rfl
@[simp] theorem endCycle_handover (s : Hall) (n : Nat) (c : Fin 16) : (endCycle n c s).handover = s.handover := rfl
@[simp] theorem endCycle_bindings (s : Hall) (n : Nat) (c : Fin 16) : (endCycle n c s).bindings = s.bindings := rfl
@[simp] theorem endCycle_programs (s : Hall) (n : Nat) (c : Fin 16) : (endCycle n c s).programs = s.programs := rfl
@[simp] theorem endCycle_sweep (s : Hall) (n : Nat) (c : Fin 16) : (endCycle n c s).sweep = s.sweep := rfl
@[simp] theorem endCycle_clients (s : Hall) (n : Nat) (c : Fin 16) : (endCycle n c s).clients = s.clients := rfl
@[simp] theorem endCycle_flags (s : Hall) (n : Nat) (c : Fin 16) : (endCycle n c s).flags = s.flags := rfl
@[simp] theorem endCycle_enables (s : Hall) (n : Nat) (c : Fin 16) : (endCycle n c s).enables = s.enables := rfl
@[simp] theorem endCycle_startKind (s : Hall) (n : Nat) (c : Fin 16) : (endCycle n c s).startKind = s.startKind := rfl
@[simp] theorem endCycle_startCause (s : Hall) (n : Nat) (c : Fin 16) :
    (endCycle n c s).startCause = s.startCause := rfl
@[simp] theorem endCycle_freeIndex (s : Hall) (n : Nat) (c : Fin 16) : (endCycle n c s).freeIndex = s.freeIndex := rfl

/-! ### One channel, one station -/

@[simp] theorem setChannel_channel (s : Hall) (c : Fin 16) (x : Channel) : (s.setChannel c x).channel c = x := by
  simp [Hall.setChannel, Hall.channel, Vector.get_eq_getElem]

theorem setChannel_channel_ne (s : Hall) (c d : Fin 16) (x : Channel) (h : c ≠ d) :
    (s.setChannel c x).channel d = s.channel d := by
  have : c.val ≠ d.val := fun e => h (Fin.ext e)
  simp [Hall.setChannel, Hall.channel, Vector.get_eq_getElem, this]

@[simp] theorem setStation_station (s : Hall) (n : Fin 4) (x : Station) : (s.setStation n x).station n = x := by
  simp [Hall.setStation, Hall.station, Vector.get_eq_getElem]

theorem setStation_station_ne (s : Hall) (n m : Fin 4) (x : Station) (h : n ≠ m) :
    (s.setStation n x).station m = s.station m := by
  have : n.val ≠ m.val := fun e => h (Fin.ext e)
  simp [Hall.setStation, Hall.station, Vector.get_eq_getElem, this]

/-! ### `drivePins` -/

@[simp] theorem drivePins_pending (s : State) : (drivePins s).pending = s.pending := rfl
@[simp] theorem drivePins_hall (s : State) : (drivePins s).hall = s.hall := rfl
@[simp] theorem drivePins_inbound (s : State) : (drivePins s).port.inbound = s.port.inbound := rfl
@[simp] theorem drivePins_outbound (s : State) : (drivePins s).port.outbound = s.port.outbound := rfl
@[simp] theorem drivePins_start (s : State) : (drivePins s).port.start = s.port.start := rfl
@[simp] theorem drivePins_readCount (s : State) : (drivePins s).port.readCount = s.port.readCount := rfl
@[simp] theorem drivePins_serving (s : State) : (drivePins s).port.serving = s.port.serving := rfl
@[simp] theorem drivePins_readOut (s : State) : (drivePins s).port.readOut = s.port.readOut := rfl
@[simp] theorem drivePins_pins (s : State) : (drivePins s).port.pins =
    ⟨s.port.readyLine, !s.port.outbound.isEmpty, attnLine s.hall, releaseLines s.hall⟩ := rfl

/-! ### Banks -/

@[simp] theorem mapBank_get {α β : Type} {n : Nat} (f : α → β) (bank : Vector α n) (i : Fin n) :
    (mapBank f bank).get i = f (bank.get i) := by
  simp [mapBank, Vector.get_eq_getElem]

@[simp] theorem mem_mapBank {α β : Type} {n : Nat} (f : α → β) (bank : Vector α n) (y : β) :
    y ∈ (mapBank f bank).toList ↔ ∃ i, f (bank.get i) = y := by
  simp [mapBank]

end Sys2Proof.Machine
end

