-- ==== Sys2Proof/Laws/Port.lean ====
section
/-! SUPPORT. What placing messages, answering a request and taking an event can do. -/

namespace Sys2Proof.Machine

/-! ### Placing notices -/

@[simp] theorem placeNotices_nil (s : State) : placeNotices [] s = s := rfl

theorem placeNotices_cons (n : Notice) (rest : List Notice) (s : State) :
    placeNotices (n :: rest) s = placeNotices rest (placeNotice s n) := rfl

/-- A notice that finds a place is the only change. -/
theorem placeNotice_room (s : State) (n : Notice) (h : s.port.outbound.length + s.port.kept < 32) :
    placeNotice s n = { s with port := { s.port with outbound := s.port.outbound ++ [.notice n] } } := by
  simp [placeNotice, Config.outboundPlaces, h]

/-- A notice that finds none is dropped, and OVERRUN is set. -/
theorem placeNotice_full (s : State) (n : Notice) (h : ¬s.port.outbound.length + s.port.kept < 32) :
    placeNotice s n = { s with hall := setFlag .overrun s.hall } := by
  simp [placeNotice, Config.outboundPlaces, h]

/-- Notices that all find a place are the only change. -/
theorem placeNotices_room (notices : List Notice) (s : State) (h : s.roomFor notices.length) :
    placeNotices notices s =
      { s with port := { s.port with outbound := s.port.outbound ++ notices.map .notice } } := by
  induction notices generalizing s with
  | nil => simp
  | cons n rest ih =>
    have h1 : s.port.outbound.length + s.port.kept < 32 := by simp only [List.length_cons] at h; omega
    rw [placeNotices_cons, placeNotice_room s n h1, ih]
    · simp
    · simp only [List.length_cons] at h
      simp only [State.roomFor, Port.kept, List.length_append, List.length_cons, List.length_nil] at h ⊢; omega

/-- What placing notices leaves alone, whatever room there is. -/
theorem placeNotices_frame (notices : List Notice) (s : State) :
    (placeNotices notices s).pending = s.pending ∧ (placeNotices notices s).port.inbound = s.port.inbound ∧
      (placeNotices notices s).port.start = s.port.start ∧
      (placeNotices notices s).port.serving = s.port.serving ∧
      (placeNotices notices s).port.readCount = s.port.readCount ∧
      (placeNotices notices s).port.readOut = s.port.readOut ∧
      ((placeNotices notices s).hall = s.hall ∨ (placeNotices notices s).hall = setFlag .overrun s.hall) := by
  induction notices generalizing s with
  | nil => simp
  | cons n rest ih =>
    rw [placeNotices_cons]
    obtain ⟨h1, h2, h3, h4, h5, h6, h7⟩ := ih (placeNotice s n)
    by_cases h : s.port.outbound.length + s.port.kept < 32
    · rw [placeNotice_room s n h] at *
      exact ⟨h1, h2, h3, h4, h5, h6, h7⟩
    · rw [placeNotice_full s n h] at *
      refine ⟨h1, h2, h3, h4, h5, h6, .inr ?_⟩
      have twice : setFlag .overrun (setFlag .overrun s.hall) = setFlag .overrun s.hall := by
        simp [setFlag, BitVec.or_assoc]
      rcases h7 with h7 | h7
      · exact h7
      · rw [h7]; exact twice

/-- The outbound queue never shrinks at a placing and never passes 32 messages with the kept place. -/
theorem placeNotices_length (notices : List Notice) (s : State) :
    s.port.outbound.length ≤ (placeNotices notices s).port.outbound.length ∧
      (s.port.outbound.length + s.port.kept ≤ 32 →
        (placeNotices notices s).port.outbound.length + (placeNotices notices s).port.kept ≤ 32) := by
  induction notices generalizing s with
  | nil => simp
  | cons n rest ih =>
    rw [placeNotices_cons]
    obtain ⟨h1, h2⟩ := ih (placeNotice s n)
    by_cases h : s.port.outbound.length + s.port.kept < 32
    · have e : (placeNotice s n).port.outbound.length = s.port.outbound.length + 1 := by
        rw [placeNotice_room s n h]; simp
      have k : (placeNotice s n).port.kept = s.port.kept := by rw [placeNotice_room s n h]; rfl
      rw [e] at h1 h2
      rw [k] at h2
      exact ⟨by omega, fun _ => h2 (by omega)⟩
    · rw [placeNotice_full s n h] at *
      exact ⟨h1, h2⟩

/-! ### A request that finds the port open -/

/-- A request's own part of check 3 (R189). -/
def formOk (s : State) (h : Header) (i : Instr) : Prop :=
  i.wellFormed = true ∧ bodyFormOk (s.hall.client h.client.toNat).role i = true

/-- A request that finds the port open is answered at once, whatever the answer. -/
theorem exec_open (i : Instr) (k : Kind) (h : Header) (s : State) (hk : i.kind = some k) (hh : i.header = some h)
    (hw : i.wellFormed = true) (ho : s.portOpen) :
    exec i s = .next (drivePins (answer k.code h.client h.tag (answerRequest k h i s.hall) s)) := by
  obtain ⟨h1, h2⟩ := ho
  cases i <;> simp only [Instr.kind, Instr.header, Option.some.injEq, reduceCtorEq] at hk hh <;> subst hk hh <;>
    first
      | (show Host.Outcome.next (drivePins (present _ s)) = _
         unfold present
         simp only [Instr.kind, Instr.header]
         rw [if_pos ⟨h1, h2⟩]
         rfl)
      | (show execStoreProgram _ _ _ s = _
         unfold execStoreProgram
         rw [if_pos hw]
         unfold present
         simp only [Instr.kind, Instr.header]
         rw [if_pos ⟨h1, h2⟩]
         rfl)

/-- A request that is admitted and whose form is right is answered by its owning unit. -/
theorem exec_admitted (i : Instr) (k : Kind) (h : Header) (s : State) (hk : i.kind = some k)
    (hh : i.header = some h) (hf : formOk s h i) (ha : s.admits h k) :
    exec i s = .next (drivePins (answer k.code h.client h.tag (handle i s.hall) s)) := by
  obtain ⟨ho, hc, hr⟩ := ha
  rw [exec_open i k h s hk hh hf.1 ho]
  have : answerRequest k h i s.hall = handle i s.hall := by
    unfold answerRequest
    rw [if_neg (by omega), if_neg (by simp [hr]), if_neg (by simp [hf.2])]
  rw [this]

/-- An answer whose notices all find a place, other than the OK of RESTART, leaves the state `State.answered` describes. -/
theorem drivePins_answer (k : Kind) (h : Header) (r : Reply) (s : State) (ho : s.portOpen)
    (hn : r.notices.length ≤ 3) (hr : ¬(k = .restart ∧ r.code = .ok)) :
    drivePins (answer k.code h.client h.tag r s) = s.answered k h r.code r.body r.notices r.hall := by
  obtain ⟨h1, h2⟩ := ho
  simp only [Port.mayTake, Bool.and_eq_true, decide_eq_true_eq, Option.isNone_iff_eq_none] at h2
  have room : s.port.outbound.length + 4 ≤ 32 := by
    simpa [Config.takingPlaces, Config.outboundPlaces] using h2.2
  have kept : s.port.kept = 0 := by simp [Port.kept, h2.1.1]
  have start : startAfter k.code r.code s.port.start = s.port.start := by
    unfold startAfter
    rw [if_neg]
    rintro ⟨hk, hc⟩
    exact hr ⟨by cases k <;> first | rfl | exact absurd hk (by decide), hc⟩
  unfold answer placeAnswer Reply.answer
  rw [placeNotices_room]
  · simp only [start]
    unfold drivePins State.answered
    simp [Port.readyLine, h1, Config.inboundPlaces]
  · simp only [State.roomFor, Port.kept, List.length_append, List.length_cons, List.length_nil] at kept ⊢
    omega

/-- The completion of a request in one step: admitted, of the right form, answered with at most 3 notices. -/
theorem exec_answered (i : Instr) (k : Kind) (h : Header) (s : State) (r : Reply) (hk : i.kind = some k)
    (hh : i.header = some h) (hf : formOk s h i) (ha : s.admits h k) (hr : handle i s.hall = r)
    (hn : r.notices.length ≤ 3) (hne : ¬(k = .restart ∧ r.code = .ok)) :
    exec i s = .next (s.answered k h r.code r.body r.notices r.hall) := by
  subst hr
  rw [exec_admitted i k h s hk hh hf ha, drivePins_answer k h _ s ha.1 hn hne]

/-! ### Taking a message -/

/-- What taking a message can do: its unit's changes of state, and what waits to be placed. -/
theorem takeWords_eq (w0 w1 : Word) (body : List Word) (s : State) :
    takeWords (w0 :: w1 :: body) s =
      { s with
        hall := (answerWords w0 w1 body s.hall).hall
        port := { s.port with
          serving := some ((answerWords w0 w1 body s.hall).answer (kindCodeOf w0) (clientOf w0) w1) } } := rfl

/-- What the port can do when it looks for a message to take: nothing, or it takes the oldest, which is complete. -/
theorem portTake_cases (s : State) :
    (s.port.takeable = false ∧ portTake s = s) ∨
    ∃ m rest, s.port.inbound = m :: rest ∧ oneMessage m = true ∧ s.port.mayTake = true ∧
      portTake s = takeWords m { s with port := { s.port with inbound := rest } } := by
  unfold Port.takeable portTake
  cases s.port.inbound with
  | nil => exact .inl ⟨rfl, rfl⟩
  | cons m rest =>
    cases h : oneMessage m && s.port.mayTake with
    | false => exact .inl ⟨h, by simp [h]⟩
    | true =>
      rw [Bool.and_eq_true] at h
      exact .inr ⟨m, rest, rfl, h.1, h.2, by simp [h]⟩

/-- A response takes its place whatever waits, and notices that all find a place follow it. -/
theorem placeAnswer_room (a : Answer) (s : State)
    (h : s.port.outbound.length + 1 + a.notices.length + s.port.kept ≤ 32) :
    placeAnswer a s =
      { s with port := { s.port with
          outbound := s.port.outbound ++ .response a.kindCode a.client a.tag a.code a.body :: a.notices.map .notice
          start := startAfter a.kindCode a.code s.port.start } } := by
  unfold placeAnswer
  rw [placeNotices_room]
  · simp
  · simp only [State.roomFor, Port.kept, List.length_append, List.length_cons, List.length_nil] at h ⊢; omega

/-! ### Events -/

/-- An event whose notices all find a place leaves the state `State.eventTaken` describes. -/
theorem drivePins_takeEvent (event : Hall → Hall × List Notice) (s : State)
    (h : s.roomFor (event s.hall).2.length) :
    drivePins (takeEvent event s) = s.eventTaken (event s.hall).2 (event s.hall).1 := by
  unfold takeEvent
  rw [placeNotices_room (event s.hall).2 { s with hall := (event s.hall).1 } h]
  rfl

end Sys2Proof.Machine
end

