-- ==== Sys2Proof/Laws/Table.lean ====
section
/-! SUPPORT. What every operation on a table can do: reading after a write, and that the canonical form is kept. -/

namespace Sys2Proof.Machine

variable {α : Type}

@[simp] theorem get_nil (n : Nat) : Table.get ([] : Table α) n = none := rfl

@[simp] theorem get_put_self (t : Table α) (n : Nat) (v : α) : (t.put n v).get n = some v := by
  induction t with
  | nil => simp [Table.put, Table.get]
  | cons e rest ih =>
    obtain ⟨k, w⟩ := e
    unfold Table.put
    split
    · simp [Table.get]
    · split
      · simp [Table.get]
      · have : k ≠ n := by omega
        simp [Table.get, this, ih]

theorem get_put_ne (t : Table α) (n m : Nat) (v : α) (h : n ≠ m) : (t.put n v).get m = t.get m := by
  induction t with
  | nil => simp [Table.put, Table.get, h]
  | cons e rest ih =>
    obtain ⟨k, w⟩ := e
    unfold Table.put
    split
    · simp [Table.get, h]
    · split
      · subst_vars
        simp [Table.get, h]
      · simp [Table.get, ih]

theorem get_put (t : Table α) (n m : Nat) (v : α) : (t.put n v).get m = if n = m then some v else t.get m := by
  by_cases h : n = m
  · subst h; simp
  · simp [h, get_put_ne t n m v h]

theorem get_del (t : Table α) (n m : Nat) : (t.del n).get m = if n = m then none else t.get m := by
  induction t with
  | nil => simp [Table.del, Table.get]
  | cons e rest ih =>
    obtain ⟨k, w⟩ := e
    simp only [Table.del] at ih ⊢
    by_cases hk : k = n
    · subst hk
      rw [List.filter_cons, if_neg (by simp), ih]
      by_cases hm : k = m
      · simp [hm]
      · simp [hm, Table.get]
    · by_cases hm : k = m
      · subst hm
        have hn : ¬ n = k := fun e => hk e.symm
        simp [hk, Table.get, hn]
      · simp [hk, Table.get, hm, ih]

@[simp] theorem get_del_self (t : Table α) (n : Nat) : (t.del n).get n = none := by simp [get_del]

theorem get_mapValues (f : α → α) (t : Table α) (n : Nat) : (t.mapValues f).get n = (t.get n).map f := by
  induction t with
  | nil => rfl
  | cons e rest ih =>
    obtain ⟨k, w⟩ := e
    simp only [Table.mapValues, List.map_cons, Table.get] at ih ⊢
    split <;> simp_all

/-- A listed entry's key is found. -/
theorem get_isSome_of_mem (t : Table α) (e : Nat × α) (h : e ∈ t) : (t.get e.1).isSome = true := by
  induction t with
  | nil => cases h
  | cons x rest ih =>
    obtain ⟨k, w⟩ := x
    simp only [Table.get]
    split
    · rfl
    · rename_i hk
      rcases List.mem_cons.mp h with h | h
      · exact absurd (by rw [h]) hk
      · exact ih h

/-- What is found is listed. -/
theorem mem_of_get (t : Table α) (n : Nat) (v : α) (h : t.get n = some v) : (n, v) ∈ t := by
  induction t with
  | nil => cases h
  | cons x rest ih =>
    obtain ⟨k, w⟩ := x
    simp only [Table.get] at h
    split at h
    · rename_i hk
      cases h
      simp [hk]
    · exact List.mem_cons_of_mem _ (ih h)

theorem mem_put_key (t : Table α) (n : Nat) (v : α) (e : Nat × α) (h : e ∈ t.put n v) : e.1 = n ∨ e ∈ t := by
  induction t with
  | nil => simp only [Table.put, List.mem_singleton] at h; exact .inl (by rw [h])
  | cons x rest ih =>
    obtain ⟨k, w⟩ := x
    unfold Table.put at h
    split at h
    · rcases List.mem_cons.mp h with h | h
      · exact .inl (by rw [h])
      · exact .inr h
    · split at h
      · rcases List.mem_cons.mp h with h | h
        · exact .inl (by rw [h])
        · exact .inr (List.mem_cons_of_mem _ h)
      · rcases List.mem_cons.mp h with h | h
        · exact .inr (by simp [h])
        · rcases ih h with h | h
          · exact .inl h
          · exact .inr (List.mem_cons_of_mem _ h)

theorem wf_nil : Table.wf ([] : Table α) := List.Pairwise.nil

theorem wf_put (t : Table α) (n : Nat) (v : α) (h : t.wf) : (t.put n v).wf := by
  induction t with
  | nil => simp [Table.put]
  | cons x rest ih =>
    obtain ⟨k, w⟩ := x
    obtain ⟨hk, hr⟩ := List.pairwise_cons.mp h
    unfold Table.put
    split
    · rename_i hlt
      refine List.pairwise_cons.mpr ⟨fun e he => ?_, h⟩
      rcases List.mem_cons.mp he with he | he
      · simpa [he] using hlt
      · exact Nat.lt_trans hlt (hk e he)
    · split
      · rename_i heq
        subst heq
        exact List.pairwise_cons.mpr ⟨hk, hr⟩
      · refine List.pairwise_cons.mpr ⟨fun e he => ?_, ih hr⟩
        rcases mem_put_key rest n v e he with he | he
        · simp only [he]; omega
        · exact hk e he

theorem wf_del (t : Table α) (n : Nat) (h : t.wf) : (t.del n).wf := List.Pairwise.filter _ h

theorem wf_putList (t : Table (List Nat)) (n : Nat) (l : List Nat) (h : t.wf) : (t.putList n l).wf := by
  cases l with
  | nil => exact wf_del t n h
  | cons x xs => exact wf_put t n _ h

theorem wf_mapValues (f : α → α) (t : Table α) (h : t.wf) : (t.mapValues f).wf :=
  List.pairwise_map.mpr (h.imp fun h => h)

/-- In a table of canonical form the lowest free key is not listed. -/
theorem get_freeFrom (t : Table α) (n : Nat) (h : t.wf) (hn : ∀ e ∈ t, n ≤ e.1) : t.get (t.freeFrom n) = none := by
  induction t generalizing n with
  | nil => rfl
  | cons x rest ih =>
    obtain ⟨k, w⟩ := x
    obtain ⟨hk, hr⟩ := List.pairwise_cons.mp h
    have le : ∀ (t : Table α) (m : Nat), m ≤ t.freeFrom m := by
      intro t
      induction t with
      | nil => intro m; exact Nat.le_refl m
      | cons y ys ihy =>
        intro m
        obtain ⟨j, _⟩ := y
        unfold Table.freeFrom
        split
        · have := ihy (m + 1); omega
        · exact Nat.le_refl m
    unfold Table.freeFrom
    split
    · rename_i heq
      subst heq
      have h1 := ih (k + 1) hr (fun e he => hk e he)
      have h2 := le rest (k + 1)
      have h3 : ¬ k = Table.freeFrom rest (k + 1) := by omega
      simpa [Table.get, h3] using h1
    · rename_i hne
      have h4 : n ≤ k := hn (k, w) (List.mem_cons_self ..)
      have h5 : Table.get rest n = none := by
        cases hg : Table.get rest n with
        | none => rfl
        | some v => have := hk _ (mem_of_get rest n v hg); simp only at this; omega
      simp [Table.get, hne, h5]

/-- The lowest free key of a table of canonical form is below the capacity and not listed. -/
theorem lowestFree_spec (t : Table α) (cap n : Nat) (h : t.wf) (hn : t.lowestFree cap = some n) :
    n < cap ∧ t.get n = none := by
  unfold Table.lowestFree at hn
  split at hn
  · cases hn
    exact ⟨by assumption, get_freeFrom t 0 h fun _ _ => Nat.zero_le _⟩
  · cases hn

/-- The last write of a key is the one that stays. -/
@[simp] theorem put_put {α : Type} (t : Table α) (n : Nat) (v w : α) : (t.put n v).put n w = t.put n w := by
  induction t with
  | nil => simp [Table.put]
  | cons e rest ih =>
    obtain ⟨k, x⟩ := e
    simp only [Table.put]
    split
    · simp [Table.put]
    · split
      · simp [Table.put]
      · rename_i h1 h2; simp [Table.put, h1, h2, ih]

/-- The list at a key after it is written; other keys keep theirs. -/
theorem list_putList (t : Table (List Nat)) (n m : Nat) (l : List Nat) :
    (t.putList n l).list m = if n = m then l else t.list m := by
  unfold Table.list Table.putList
  cases l with
  | nil => simp only [get_del]; split <;> simp_all
  | cons x xs => simp only [get_put]; split <;> simp_all

end Sys2Proof.Machine
end

