-- ==== Sys2Proof/Laws/Ops.lean ====
section
/-! SUPPORT. One lemma for each shared operation and case: what it answers, said once. -/

namespace Sys2Proof.Machine

/-! ### A request's completion -/

/-- The completion of a request, from what its unit answers. -/
theorem exec_reply {i : Instr} {k : Kind} {h : Header} {s : State} {hall : Hall} {code : Code} {body : List Word}
    {notices : List Notice} (ha : s.admits h k) (hf : formOk s h i)
    (hr : handle i s.hall = ⟨hall, code, body, notices⟩) (hk : i.kind = some k) (hh : i.header = some h)
    (hn : notices.length ≤ 3) (hne : k ≠ .restart) :
    exec i s = .next (s.answered k h code body notices hall) :=
  exec_answered i k h s _ hk hh hf ha hr hn (by simp [hne])

/-! ### Looking up -/

theorem findTool_of_holds {s : State} {tool : Word} {slot : Nat} {r : Record} (h : s.holds tool slot r) :
    s.hall.findTool tool.toNat = some (slot, r) := by
  simp [Hall.findTool, h.2.2.1, h.2.2.2]

theorem lookUpTool_of_holds {s : State} {tool : Word} {slot : Nat} {r : Record} (h : s.holds tool slot r) :
    s.hall.lookUpTool tool = .ok (slot, r) := by
  simp [Hall.lookUpTool, findTool_of_holds h, h.1, h.2.1, maxToolNumber]

/-- The law of the index, from the entries that the two tables list. -/
theorem indexLaw_of_listed {s : Hall} (hi : ∀ e ∈ s.index, ∃ r ∈ s.records.get e.2, r.tool = e.1)
    (hr : ∀ e ∈ s.records, s.index.get e.2.tool = some e.1) : IndexLaw s := by
  intro tool slot
  constructor
  · intro h
    exact hi (tool, slot) (mem_of_get _ _ _ h)
  · rintro ⟨r, h, rfl⟩
    exact hr (slot, r) (mem_of_get _ _ _ h)

/-! ### Usable counts -/

/-- A fall of the usable count of a defined class. -/
theorem usableFall_eq {cls : Nat} {s : Hall} {c : ClassEntry} (h : s.classes.get cls = some c) :
    usableFall cls s =
      ({ s with classes := s.classes.put cls (fallEntry c), flags := fallFlags c s.flags }, fallNotices cls c) := by
  simp [usableFall, h, ClassEntry.reassess, fallNotices, fallSetsLow, fallEntry, fallFlags, setFlag, Hall.putClass,
    lowStockNotice, everyToolroom]
  split
  · simp [Flag.mask, Flag.index]; rfl
  · simp

/-- A rise of the usable count of a defined class. -/
theorem usableRise_eq {cls : Nat} {s : Hall} {c : ClassEntry} (h : s.classes.get cls = some c) :
    usableRise cls s = { s with classes := s.classes.put cls (riseEntry c) } := by
  simp [usableRise, h, ClassEntry.reassess, riseEntry, Hall.putClass]

theorem fallNotices_length (cls : Nat) (c : ClassEntry) : (fallNotices cls c).length ≤ 1 := by
  unfold fallNotices; split <;> simp

/-- A READY record of a defined class is held. -/
theorem holdReady_eq {slot : Nat} {r : Record} {reason : HoldReason} {s : Hall} {c : ClassEntry}
    (h : s.classes.get r.cls = some c) :
    holdReady slot r reason s =
      ({ s with
          records := s.records.put slot { r with status := .held reason }
          chains := s.chains.putList r.cls ((s.chains.list r.cls).filter fun x => x != slot)
          classes := s.classes.put r.cls (fallEntry c), flags := fallFlags c s.flags }, fallNotices r.cls c) := by
  simp only [holdReady, leaveChain, Hall.putRecord]
  exact usableFall_eq (c := c) h

/-! ### The offer -/

/-- No ticket of a queue that the record meets. -/
theorem firstMet_none {tickets : Table Ticket} {r : Record} {queue : List Nat}
    (h : ∀ x ∈ queue, ∀ t, tickets.get x = some t → meets r t = false) : firstMet tickets r queue = none := by
  induction queue with
  | nil => rfl
  | cons x xs ih =>
    have rest := ih fun y hy => h y (List.mem_cons_of_mem _ hy)
    unfold firstMet
    cases hx : tickets.get x with
    | none => exact rest
    | some t => simp [h x List.mem_cons_self t hx, rest]

/-- The first ticket of a queue that the record meets. -/
theorem firstMet_some {tickets : Table Ticket} {r : Record} {before after : List Nat} {n : Nat} {t : Ticket}
    (hn : tickets.get n = some t) (hm : meets r t = true)
    (h : ∀ x ∈ before, ∀ u, tickets.get x = some u → meets r u = false) :
    firstMet tickets r (before ++ n :: after) = some (n, t) := by
  induction before with
  | nil => simp [firstMet, hn, hm]
  | cons x xs ih =>
    have rest := ih fun y hy => h y (List.mem_cons_of_mem _ hy)
    rw [List.cons_append]
    unfold firstMet
    cases hx : tickets.get x with
    | none => exact rest
    | some u => simp [h x List.mem_cons_self u hx, rest]

/-- An offer that finds no taker changes nothing. -/
theorem offer_none {s : Hall} {slot : Nat} {r : Record} (hr : s.records.get slot = some r)
    (h : s.mode ≠ .online ∨ ∀ x ∈ s.waitQueues.list r.cls, ∀ t, s.tickets.get x = some t → meets r t = false) :
    offer slot s = ⟨s, [], none⟩ := by
  unfold offer
  rw [hr]
  cases hm : s.mode <;> simp only
  rcases h with h | h
  · exact absurd hm h
  · rw [firstMet_none h]

/-- An offer promises the record to the first waiting ticket that it meets. -/
theorem offer_some {s : Hall} {slot : Nat} {r : Record} {before after : List Nat} {n : Nat} {t : Ticket}
    (hr : s.records.get slot = some r) (hm : s.mode = .online)
    (hq : s.waitQueues.list r.cls = before ++ n :: after) (hn : s.tickets.get n = some t) (ht : meets r t = true)
    (h : ∀ x ∈ before, ∀ u, s.tickets.get x = some u → meets r u = false) :
    offer slot s = ⟨(promise n t slot r s).1,
      if t.notify then [promisedNotice n t slot r (promise n t slot r s).2] else [], some n⟩ := by
  unfold offer
  simp only [hr, hm, hq, firstMet_some hn ht h]

/-- A record enters READY and no ticket takes it; the usable count rises when it was not usable. -/
theorem enterReady_rise {s : Hall} {slot : Nat} {r : Record} {c : ClassEntry} (hc : s.classes.get r.cls = some c)
    (h : s.mode ≠ .online ∨ s.waitQueues.list r.cls = []) :
    enterReady slot r false s =
      ⟨{ s with
          records := s.records.put slot { r with status := .ready }
          chains := s.chains.putList r.cls (chainInsert (s.records.put slot { r with status := .ready }) slot
            { r with status := .ready } (s.chains.list r.cls))
          classes := s.classes.put r.cls (riseEntry c) }, [], none⟩ := by
  simp only [enterReady, joinChain, Hall.putRecord, Bool.false_eq_true, if_false]
  rw [usableRise_eq (c := c) (by exact hc)]
  exact offer_none (r := { r with status := .ready }) (by simp) (h.imp id fun h => by simp [h])

/-- The same for a record that was usable. -/
theorem enterReady_keep {s : Hall} {slot : Nat} {r : Record} (h : s.mode ≠ .online ∨ s.waitQueues.list r.cls = []) :
    enterReady slot r true s =
      ⟨{ s with
          records := s.records.put slot { r with status := .ready }
          chains := s.chains.putList r.cls (chainInsert (s.records.put slot { r with status := .ready }) slot
            { r with status := .ready } (s.chains.list r.cls)) }, [], none⟩ := by
  simp only [enterReady, joinChain, Hall.putRecord, if_true]
  exact offer_none (r := { r with status := .ready }) (by simp) (h.imp id fun h => by simp [h])

/-- A PROMISED record returns to READY and no ticket takes it. -/
theorem returnPromise_keep {s : Hall} {slot : Nat} {r : Record} (hr : s.records.get slot = some r)
    (h : s.mode ≠ .online ∨ s.waitQueues.list r.cls = []) :
    returnPromise slot s =
      ⟨{ s with
          records := s.records.put slot { r with status := .ready, opened := false }
          chains := s.chains.putList r.cls
            (chainInsert (s.records.put slot { r with status := .ready, opened := false }) slot
              { r with status := .ready, opened := false } (s.chains.list r.cls)) }, [], none⟩ := by
  simp only [returnPromise, hr]
  exact enterReady_keep h

/-! ### Drawer cycles -/

/-- A cycle starts for the head of an IDLE channel's queue when the mode is ONLINE. -/
theorem startCycle_head {c : Fin 16} {s : Hall} {n : Nat} {rest : List Nat} {t : Ticket}
    (hs : (s.channel c).state = .idle) (hm : s.mode = .online) (hq : (s.channel c).queue = n :: rest)
    (ht : s.tickets.get n = some t) :
    startCycle c s = { s with
      channels := s.channels.set c.val
        { s.channel c with state := .released, timer := some (s.channel c).openWindow } c.isLt
      tickets := s.tickets.put n t.release } := by
  simp [startCycle, hs, hm, hq, Hall.setChannel, ht, Hall.putTicket]

/-- No cycle starts on a channel that is not IDLE, has no ticket, or while the mode is not ONLINE. -/
theorem startCycle_none {c : Fin 16} {s : Hall}
    (h : (s.channel c).state ≠ .idle ∨ s.mode ≠ .online ∨ (s.channel c).queue = []) : startCycle c s = s := by
  unfold startCycle
  split
  · rename_i h1 h2 h3; simp [h1, h2, h3] at h
  · rfl

/-- While the mode is not DRAINING, there is no drain to end. -/
theorem drainCheck_none {s : Hall} (h : s.mode ≠ .draining) : drainCheck s = s := by
  unfold drainCheck
  split
  · rename_i hm; exact absurd hm h
  · rfl

end Sys2Proof.Machine
end

