-- ==== Sys2Proof/Laws/PerInstr.lean ====
section
/-! SUPPORT. A law of every command, one lemma for each constructor: the body of a well-formed command fits the port's
62 body words (R186, R204), so that the header's length field holds its length. -/

namespace Sys2Proof.Laws

/-- Packing four bytes to a word takes a quarter of the bytes, rounded up (R207). -/
theorem packBytes_length (bytes : List Byte) : (packBytes bytes).length = (bytes.length + 3) / 4 := by
  induction bytes using packBytes.induct with
  | case1 => rfl
  | case2 => simp [packBytes]
  | case3 => simp [packBytes]
  | case4 => simp [packBytes]
  | case5 a b c d rest ih => simp only [packBytes, List.length_cons, ih]; omega

/-- The body of a well-formed command has at most 62 words. -/
def BodyFits.Statement (i : Instr) : Prop := i.wellFormed = true → (bodyWords i).length ≤ 62

theorem BodyFits.enrol (h : Header) (tool cls : Word) (loc : CribLoc) (life : Option Word) :
    BodyFits.Statement (.enrol h tool cls loc life) :=
  fun _ => by cases life <;> exact Nat.le_of_ble_eq_true rfl

theorem BodyFits.retire (h : Header) (tool : Word) :
    BodyFits.Statement (.retire h tool) :=
  fun _ => Nat.le_of_ble_eq_true rfl

theorem BodyFits.hold (h : Header) (tool : Word) :
    BodyFits.Statement (.hold h tool) :=
  fun _ => Nat.le_of_ble_eq_true rfl

theorem BodyFits.releaseHold (h : Header) (tool : Word) (regrind : Bool) :
    BodyFits.Statement (.releaseHold h tool regrind) :=
  fun _ => Nat.le_of_ble_eq_true rfl

theorem BodyFits.moveBin (h : Header) (tool : Word) (loc : CribLoc) :
    BodyFits.Statement (.moveBin h tool loc) :=
  fun _ => Nat.le_of_ble_eq_true rfl

theorem BodyFits.queryTool (h : Header) (tool : Word) :
    BodyFits.Statement (.queryTool h tool) :=
  fun _ => Nat.le_of_ble_eq_true rfl

theorem BodyFits.findClass (h : Header) (cls start : Word) :
    BodyFits.Statement (.findClass h cls start) :=
  fun _ => Nat.le_of_ble_eq_true rfl

theorem BodyFits.defineClass (h : Header) (cls : Word) (shape : ShapeWords) (policy : PolicyWords) :
    BodyFits.Statement (.defineClass h cls shape policy) :=
  fun _ => Nat.le_of_ble_eq_true rfl

theorem BodyFits.queryClass (h : Header) (cls : Word) :
    BodyFits.Statement (.queryClass h cls) :=
  fun _ => Nat.le_of_ble_eq_true rfl

theorem BodyFits.deleteClass (h : Header) (cls : Word) :
    BodyFits.Statement (.deleteClass h cls) :=
  fun _ => Nat.le_of_ble_eq_true rfl

theorem BodyFits.stats (h : Header) (cls : Word) (clear : Bool) :
    BodyFits.Statement (.stats h cls clear) :=
  fun _ => Nat.le_of_ble_eq_true rfl

theorem BodyFits.calGeometry (h : Header) (station : Word) (values : GeometryWords) :
    BodyFits.Statement (.calGeometry h station values) :=
  fun _ => Nat.le_of_ble_eq_true rfl

theorem BodyFits.calCorrection (h : Header) (station : Word) (values : CorrectionWords) :
    BodyFits.Statement (.calCorrection h station values) :=
  fun _ => Nat.le_of_ble_eq_true rfl

theorem BodyFits.configureStation (h : Header) (station window : Word) :
    BodyFits.Statement (.configureStation h station window) :=
  fun _ => Nat.le_of_ble_eq_true rfl

theorem BodyFits.queryStation (h : Header) (station : Word) :
    BodyFits.Statement (.queryStation h station) :=
  fun _ => Nat.le_of_ble_eq_true rfl

theorem BodyFits.holdByCalibration (h : Header) (station generation : Word) :
    BodyFits.Statement (.holdByCalibration h station generation) :=
  fun _ => Nat.le_of_ble_eq_true rfl

theorem BodyFits.gaugeBegin (h : Header) (tool : Word) :
    BodyFits.Statement (.gaugeBegin h tool) :=
  fun _ => Nat.le_of_ble_eq_true rfl

theorem BodyFits.gaugePoint (h : Header) (z x : Word) :
    BodyFits.Statement (.gaugePoint h z x) :=
  fun _ => Nat.le_of_ble_eq_true rfl

theorem BodyFits.gaugeEnd (h : Header) (temperature : Word) :
    BodyFits.Statement (.gaugeEnd h temperature) :=
  fun _ => Nat.le_of_ble_eq_true rfl

theorem BodyFits.gaugeAbort (h : Header) :
    BodyFits.Statement (.gaugeAbort h) :=
  fun _ => Nat.le_of_ble_eq_true rfl

theorem BodyFits.issue (h : Header) (form : IssueForm) :
    BodyFits.Statement (.issue h form) :=
  fun _ => Nat.le_of_ble_eq_true rfl

theorem BodyFits.cancel (h : Header) (ticket : Word) (tag : Option Word) :
    BodyFits.Statement (.cancel h ticket tag) :=
  fun _ => by cases tag <;> exact Nat.le_of_ble_eq_true rfl

theorem BodyFits.returnTool (h : Header) (tool : Word) (loc : CribLoc) :
    BodyFits.Statement (.returnTool h tool loc) :=
  fun _ => Nat.le_of_ble_eq_true rfl

theorem BodyFits.setIssueMode (h : Header) (on : Bool) :
    BodyFits.Statement (.setIssueMode h on) :=
  fun _ => Nat.le_of_ble_eq_true rfl

theorem BodyFits.queryIssue (h : Header) (cls start : Word) :
    BodyFits.Statement (.queryIssue h cls start) :=
  fun _ => Nat.le_of_ble_eq_true rfl

theorem BodyFits.queryTicket (h : Header) (ticket : Word) :
    BodyFits.Statement (.queryTicket h ticket) :=
  fun _ => Nat.le_of_ble_eq_true rfl

theorem BodyFits.configureChannel (h : Header) (channel : Word) (enabled : Bool) (openWindow takeWindow : Word) :
    BodyFits.Statement (.configureChannel h channel enabled openWindow takeWindow) :=
  fun _ => Nat.le_of_ble_eq_true rfl

theorem BodyFits.clearChannel (h : Header) (channel : Word) :
    BodyFits.Statement (.clearChannel h channel) :=
  fun _ => Nat.le_of_ble_eq_true rfl

theorem BodyFits.handover (h : Header) (ticket : Word) (tag : Option Word) :
    BodyFits.Statement (.handover h ticket tag) :=
  fun _ => by cases tag <;> exact Nat.le_of_ble_eq_true rfl

theorem BodyFits.queryChannel (h : Header) (channel start : Word) :
    BodyFits.Statement (.queryChannel h channel start) :=
  fun _ => Nat.le_of_ble_eq_true rfl

theorem BodyFits.queryHandover (h : Header) (start : Word) :
    BodyFits.Statement (.queryHandover h start) :=
  fun _ => Nat.le_of_ble_eq_true rfl

theorem BodyFits.mount (h : Header) (tool pocket : Word) :
    BodyFits.Statement (.mount h tool pocket) :=
  fun _ => Nat.le_of_ble_eq_true rfl

theorem BodyFits.dismount (h : Header) (pocket : Word) :
    BodyFits.Statement (.dismount h pocket) :=
  fun _ => Nat.le_of_ble_eq_true rfl

theorem BodyFits.protect (h : Header) (pocket : Word) :
    BodyFits.Statement (.protect h pocket) :=
  fun _ => Nat.le_of_ble_eq_true rfl

theorem BodyFits.unprotect (h : Header) (pocket : Word) :
    BodyFits.Statement (.unprotect h pocket) :=
  fun _ => Nat.le_of_ble_eq_true rfl

theorem BodyFits.adjust (h : Header) (tool lengthDelta radiusDelta : Word) :
    BodyFits.Statement (.adjust h tool lengthDelta radiusDelta) :=
  fun _ => Nat.le_of_ble_eq_true rfl

theorem BodyFits.resendHandoff (h : Header) (machine : Option Word) (pocket : Word) :
    BodyFits.Statement (.resendHandoff h machine pocket) :=
  fun _ => by cases machine <;> exact Nat.le_of_ble_eq_true rfl

theorem BodyFits.queryPocket (h : Header) (machine pocket : Word) :
    BodyFits.Statement (.queryPocket h machine pocket) :=
  fun _ => Nat.le_of_ble_eq_true rfl

theorem BodyFits.storeProgram (h : Header) (program : Byte) (bytes : List Byte) :
    BodyFits.Statement (.storeProgram h program bytes) := by
  intro h
  simp only [Instr.wellFormed, decide_eq_true_eq] at h
  simp only [bodyWords, List.length_cons, packBytes_length]
  omega

theorem BodyFits.queryProgram (h : Header) (program : Word) :
    BodyFits.Statement (.queryProgram h program) :=
  fun _ => Nat.le_of_ble_eq_true rfl

theorem BodyFits.renderTest (h : Header) (program tool offset : Word) :
    BodyFits.Statement (.renderTest h program tool offset) :=
  fun _ => Nat.le_of_ble_eq_true rfl

theorem BodyFits.usage (h : Header) (pocket amount : Word) :
    BodyFits.Statement (.usage h pocket amount) :=
  fun _ => Nat.le_of_ble_eq_true rfl

theorem BodyFits.setSweep (h : Header) (period : Option Word) :
    BodyFits.Statement (.setSweep h period) :=
  fun _ => by cases period <;> exact Nat.le_of_ble_eq_true rfl

theorem BodyFits.setClient (h : Header) (client : Word) (form : ClientForm) :
    BodyFits.Statement (.setClient h client form) :=
  fun _ => by cases form <;> exact Nat.le_of_ble_eq_true rfl

theorem BodyFits.queryClient (h : Header) (client : Word) :
    BodyFits.Statement (.queryClient h client) :=
  fun _ => Nat.le_of_ble_eq_true rfl

theorem BodyFits.attention (h : Header) (choice : BitVec 7) :
    BodyFits.Statement (.attention h choice) :=
  fun _ => Nat.le_of_ble_eq_true rfl

theorem BodyFits.setEnables (h : Header) (enables : BitVec 7) :
    BodyFits.Statement (.setEnables h enables) :=
  fun _ => Nat.le_of_ble_eq_true rfl

theorem BodyFits.restart (h : Header) :
    BodyFits.Statement (.restart h) :=
  fun _ => Nat.le_of_ble_eq_true rfl

theorem BodyFits.wipe (h : Header) :
    BodyFits.Statement (.wipe h) :=
  fun _ => Nat.le_of_ble_eq_true rfl

theorem BodyFits.identify (h : Header) :
    BodyFits.Statement (.identify h) :=
  fun _ => Nat.le_of_ble_eq_true rfl

theorem BodyFits.malformedMessage (words : List Word) :
    BodyFits.Statement (.malformedMessage words) :=
  fun _ => Nat.le_of_ble_eq_true rfl

theorem BodyFits.messageRead :
    BodyFits.Statement .messageRead :=
  fun _ => Nat.le_of_ble_eq_true rfl

theorem BodyFits.opened (channel : Fin 16) :
    BodyFits.Statement (.opened channel) :=
  fun _ => Nat.le_of_ble_eq_true rfl

theorem BodyFits.closed (channel : Fin 16) :
    BodyFits.Statement (.closed channel) :=
  fun _ => Nat.le_of_ble_eq_true rfl

theorem BodyFits.openWindowExpiry (channel : Fin 16) :
    BodyFits.Statement (.openWindowExpiry channel) :=
  fun _ => Nat.le_of_ble_eq_true rfl

theorem BodyFits.takeWindowExpiry (channel : Fin 16) :
    BodyFits.Statement (.takeWindowExpiry channel) :=
  fun _ => Nat.le_of_ble_eq_true rfl

theorem BodyFits.gaugeWindowExpiry (station : Fin 4) :
    BodyFits.Statement (.gaugeWindowExpiry station) :=
  fun _ => Nat.le_of_ble_eq_true rfl

theorem BodyFits.sweep :
    BodyFits.Statement .sweep :=
  fun _ => Nat.le_of_ble_eq_true rfl

theorem BodyFits.reset (retain : Bool) (closedInputs : BitVec 16) :
    BodyFits.Statement (.reset retain closedInputs) :=
  fun _ => Nat.le_of_ble_eq_true rfl

theorem BodyFits.pendingStart :
    BodyFits.Statement .pendingStart :=
  fun _ => Nat.le_of_ble_eq_true rfl

theorem BodyFits.messageWordWritten (word : Word) :
    BodyFits.Statement (.messageWordWritten word) :=
  fun _ => Nat.le_of_ble_eq_true rfl

end Sys2Proof.Laws
end

