-- ==== Sys2Proof/Tests/Slice0.lean ====
section
/-! SUPPORT. The author's own tests: the form checks, messages written out word by word, the manual's worked examples,
and for every statement with hypotheses a concrete state and operands that meet them. -/

namespace Sys2Proof.Tests

open Sys2Proof Sys2Proof.Machine

/-! ### The hall the tests run in -/

/-- Class 17 of the manual's worked examples (2.1); the validity and the minimum stock are the test's. -/
def cls17 : ClassEntry where
  shape := ⟨2670000, 132700, -500, 200, 4, -50, 50, 100, .count, 1000⟩
  policy := ⟨100, 150, 3, 3, 2, 30, 10, 1, false⟩
  usable := 1
  low := false
  issues := ⟨4294967295, false⟩
  rejects := ⟨0, false⟩

/-- Program 3 of the manual (8.5), its bytes as chapter 11 writes them out. -/
def bytes3 : List Byte := [2, 0x11, 0x48, 8, 1, 0, 8, 3, 0, 6, 3, 3, 4, 3, 1, 5, 3, 4, 0x0a]

/-- The ten steps of program 3. -/
def steps3 : List Machine.Step :=
  [.load .length .mm 4 8, .setmark .fill none, .setmark .plus none, .sign, .digits 3, .force, .digits 1, .point,
    .digits 4, .endStep]

/-- Clients: 0 and 4 toolroom and crib, 9 the presetter of station 1, 21 a machine with program 3. -/
def hall0 : Hall :=
  { Hall.cold (Vector.replicate 16 .shut) with
    clients := [(0, .toolroom), (4, .crib), (9, .presetter 1), (21, .machine 3 60 80 0)]
    classes := [(17, cls17)]
    programs := [(3, ⟨steps3, bytes3, 10⟩)] }

def state (s : Hall) : State := { State.reset with hall := s }

def hdr (client : Byte) : Header := ⟨client, 7⟩

def geo : Geometry := ⟨2670333, 132718, 70, 4⟩

def meas : Measurement := ⟨1, 5, 2230, 0⟩

/-- Tool 99,999,999 of class 17, in the last bin of drawer 3. -/
def tool (status : RecordStatus) : Record where
  tool := 99999999
  cls := 17
  status := status
  rejectCause := none
  location := .drawer 3 63
  measured := some (geo, meas)
  life := 120
  regrinds := 2
  warned := false
  ended := false
  outAge := 1
  overdue := false
  dest := none
  opened := false

/-- The hall with one record in slot 4095. -/
def hallOf (r : Record) : Hall := { hall0 with records := [(4095, r)], index := [(r.tool, 4095)] }

def stateOf (r : Record) : State := state (hallOf r)

/-- The same with the tool READY in its chain. -/
def readyState : State := state { hallOf (tool .ready) with chains := [(17, [4095])] }

/-- What a command leaves, or none when it gives no next state. -/
def after (i : Instr) (s : State) : Option State :=
  match exec i s with
  | .next t => some t
  | _ => none

/-- The code and the body of the response a request gets first. -/
def reply (i : Instr) (s : State) : Option (Code × List Word) :=
  match (after i s).bind fun t => t.port.outbound.head? with
  | some (.response _ _ _ code body) => some (code, body)
  | _ => none

/-- The notices behind that response. -/
def notices (i : Instr) (s : State) : List Notice :=
  (((after i s).map fun t => t.port.outbound).getD []).filterMap fun m =>
    match m with
    | .notice n => some n
    | _ => none

/-- The characters of a text, as bytes. -/
def chars (s : List Char) : List Byte := s.map fun c => BitVec.ofNat 8 c.toNat

def rendered (steps : List Machine.Step) (x : RenderInput) : Option (List Byte) :=
  match render steps x with
  | .ok b => some b
  | .error _ => none

/-! ### Form checks (WellFormed) -/

theorem test_storeProgram_of_244_bytes_is_well_formed :
    (Instr.storeProgram (hdr 0) 3 (List.replicate 244 0x0a)).wellFormed = true := by decide +kernel

theorem test_storeProgram_of_245_bytes_is_refused :
    (Instr.storeProgram (hdr 0) 3 (List.replicate 245 0x0a)).wellFormed = false := by decide +kernel

theorem test_malformedMessage_without_words_is_refused : (Instr.malformedMessage []).wellFormed = false := by decide

theorem test_malformedMessage_of_one_word_is_refused :
    (Instr.malformedMessage [0x40000000]).wellFormed = false := by decide

theorem test_malformedMessage_short_of_its_body_is_refused :
    (Instr.malformedMessage [0x41000000, 7]).wellFormed = false := by decide

/-! ### Messages written out from chapter 11 -/

/-- STORE-PROGRAM of program 3, the six body words as R207's example gives them, from client 0 with tag 7. -/
theorem test_words_of_store_program :
    encode (.storeProgram (hdr 0) 3 bytes3) =
      [0x46006000, 7, 0x00001303, 0x02114808, 0x01000803, 0x00060303, 0x04030105, 0x03040A00] := by decide

theorem test_decode_store_program :
    decodeBody .storeProgram (hdr 0) [0x00001303, 0x02114808, 0x01000803, 0x00060303, 0x04030105, 0x03040A00] =
      some (.storeProgram (hdr 0) 3 bytes3) := by decide

/-- ISSUE by class 17, band PLAN, notify, grades 2 to 4, to client 21, life 300: word 1 has bits 1, 3, 4, 16, the low
grade in bits 11 to 8, the high in 15 to 12, the client in 31 to 24. -/
theorem test_decode_issue :
    decodeBody .issue (hdr 4) [17, 0x1501421A, 300] =
      some (.issue (hdr 4) ⟨false, 17, .plan, true, some (2, 4), some 21, 300⟩) := by decide

/-- ENROL of tool 4471 into class 17, drawer 3 bin 17; then to shelf 88. -/
theorem test_decode_enrol :
    decodeBody .enrol (hdr 0) [4471, 17, 0x40000311] = some (.enrol (hdr 0) 4471 17 (.drawer 3 17) none) ∧
    decodeBody .enrol (hdr 0) [4471, 17, 0x80000058, 9] = some (.enrol (hdr 0) 4471 17 (.shelf 88) (some 9)) ∧
    decodeBody .enrol (hdr 0) [4471, 17, 0] = none := by decide

/-- CAL-CORRECTION with trims +3 and −2. -/
theorem test_decode_cal_correction :
    decodeBody .calCorrection (hdr 0) [1, 3, 0x12, 1150, 20] =
      some (.calCorrection (hdr 0) 1 ⟨⟨false, 3⟩, ⟨true, 2⟩, 1150, 20⟩) := by decide

theorem test_decode_set_client :
    decodeBody .setClient (hdr 0) [21, 4, 3, 60, 80, 0] = some (.setClient (hdr 0) 21 (.machine 3 60 80 0)) ∧
    decodeBody .setClient (hdr 0) [21, 4, 3, 60] = none ∧ decodeBody .setClient (hdr 0) [21, 5] = none := by decide

/-- The whole message of IDENTIFY: type 1, body length 0, client 9, its kind code. -/
theorem test_identify_by_its_words :
    (after (.malformedMessage [0x40090000 ||| (Kind.identify.code.setWidth 32 <<< 8), 5]) (state hall0)) =
      after (.identify ⟨9, 5⟩) (state hall0) := by decide

/-! ### The manual's worked examples -/

/-- 8.5: length in millimetres, with and without offset, and negative. -/
theorem test_render_length_mm :
    rendered steps3 ⟨0, 12, 2670333, 132718, 4, 120, 4471⟩ = some (chars ['2', '6', '7', '.', '0', '3', '3', '3']) ∧
    rendered steps3 ⟨-1500, 12, 2670313, 0, 4, 0, 1⟩ = some (chars ['2', '6', '6', '.', '8', '8', '1', '3']) ∧
    rendered steps3 ⟨0, 0, -1234, 0, 0, 0, 1⟩ = some (chars ['-', '0', '.', '1', '2', '3', '4']) := by decide

/-- 8.5: length in inches. -/
theorem test_render_length_inch :
    rendered [.load .length .inch 5 8, .setmark .fill none, .setmark .plus none, .sign, .digits 2, .force, .digits 1,
      .point, .digits 5, .endStep] ⟨0, 0, 2670333, 0, 0, 0, 1⟩ =
        some (chars ['1', '0', '.', '5', '1', '3', '1', '2']) := by decide

/-- 8.5: with width 6 the load stops at step 0, value 1,051,312. -/
theorem test_render_significance :
    (match render [.load .length .inch 5 6, .endStep] ⟨0, 0, 2670333, 0, 0, 0, 1⟩ with
      | .ok _ => none
      | .error e => some e) = some ⟨0, .length, 1051312, 6⟩ := by decide

/-- 8.5: diameter in millimetres. -/
theorem test_render_diameter :
    rendered [.load .diameter .mm 3 6, .setmark .fill none, .digits 2, .force, .digits 1, .point, .digits 3, .endStep]
      ⟨0, 0, 0, 132718, 0, 0, 1⟩ = some (chars ['2', '6', '.', '5', '4', '4']) := by decide

/-- R149: the span of the SKIP-IF-ZERO at index 1 ends beyond the last step, the LITERAL of count 0 at index 2, and no
byte stands behind that count. -/
theorem test_skip_past_the_end :
    (match validate [0x02, 0x11, 0x48, 0x09, 0x03, 0x01, 0x00] with | .ok _ => none | .error e => some e) =
      some (1, .skipSpan) := by decide

/-- R149: behind the LITERAL of count 0 stands an END that the span would pass over, or one step where it would pass over
two; and a tail that could hold the step is no ground to fail. -/
theorem test_skip_no_split_holds :
    (match validate [0x02, 0x11, 0x48, 0x09, 0x02, 0x01, 0x00, 0x0a] with | .ok _ => none | .error e => some e) =
      some (1, .skipSpan) ∧
    (match validate [0x02, 0x11, 0x48, 0x09, 0x03, 0x01, 0x00, 0x03, 0x03] with
      | .ok _ => none
      | .error e => some e) = some (1, .skipSpan) ∧
    mostSteps [0x03, 0x03, 0x05, 0x0a] = [2, 1, 1, 0, 0] := by decide

/-- 8.5: program 3 has ten steps, its greatest output is 10. -/
theorem test_validate_program_3 :
    (match validate bytes3 with | .ok p => some p | .error _ => none) = some (steps3, 10) := by decide

def geoHalf : GeometryHalf := ⟨327000, 327680, 1000000, 0, 1500000, 250000⟩

def corrHalf : CorrectionHalf := ⟨⟨false, 3⟩, ⟨true, 2⟩, 1150, 20⟩

/-- 4.7: the two points reduce to length 2,670,333, radius 132,718 and runout 70, and class 17 accepts at grade 4. -/
theorem test_worked_reduction :
    gather (reducePoint geoHalf corrHalf 2230 ⟨1234567, -23456⟩) [reducePoint geoHalf corrHalf 2230 ⟨1234501, -23470⟩] =
      ⟨2670333, 132718, 70, false⟩ ∧
    classify cls17.shape ⟨2670333, 132718, 70, false⟩ = none ∧
    writtenGrade (gradeIndex cls17.shape 2670333) = 4 := by decide

/-- 4.7: the counter-case, grade index −1, and the radius one above the band (2.1). -/
theorem test_worked_rejections :
    gradeIndex cls17.shape 2669400 = -1 ∧ classify cls17.shape ⟨2669400, 132718, 70, false⟩ = some .length ∧
    classify cls17.shape ⟨2670333, 132751, 70, false⟩ = some .radius := by decide

/-- 4.7: the saturation case. -/
theorem test_worked_saturation :
    reducePoint { geoHalf with zZero := -1000000 } corrHalf 2230 ⟨1234567, -23456⟩ = ⟨9999735, 132718, true⟩ := by
  decide

/-- 4.7: the master check's points. -/
theorem test_worked_master_points :
    reducePoint geoHalf corrHalf 2230 ⟨1000008, 0⟩ = ⟨1500003, 249998, false⟩ ∧
    (reducePoint geoHalf corrHalf 2230 ⟨1000006, 1⟩).zc = 1499993 := by decide

/-- 9.5: the two charges of the worked usage sequence. -/
theorem test_worked_charges : consumedBy 37 80 = 47 ∧ consumedBy 60 80 = 75 := by decide

/-- Section 1.5: tool 300099 joins class 17's chain at position 2. -/
theorem test_worked_chain :
    let r := fun (n life : Nat) => { tool .ready with tool := n, life := life }
    let records : Table Record :=
      [(1, r 300112 150), (2, r 300087 400), (3, r 300140 400), (4, r 300021 900), (5, r 300099 400)]
    chainInsert records 5 (r 300099 400) [1, 2, 3, 4] = [1, 2, 5, 3, 4] := by decide

/-- R37: the counter passes 4,294,967,295, its wrapped mark is set; STATS reports 0 and yes and clears. -/
theorem test_counter_wraps : (Counter.bump ⟨4294967295, false⟩) = ⟨0, true⟩ := by decide

/-- R176: SET-SWEEP 600 with 45 of 60 seconds counted answers 600, 60 and 15. -/
theorem test_set_sweep :
    reply (.setSweep (hdr 0) (some 600)) (state { hall0 with sweep := ⟨60, 60, 45⟩ }) = some (.ok, [600, 60, 15]) := by
  decide

/-- Section 1.7: the regrind of tool 20511 in its form for this hall, 1,000 − 3 × 150. -/
theorem test_regrind :
    reply (.releaseHold (hdr 0) 99999999 true) (stateOf { tool (.held .worn) with life := 0 }) = some (.ok, [3, 550]) ∧
    reply (.releaseHold (hdr 0) 99999999 true) (stateOf { tool (.held .worn) with life := 0, regrinds := 3 }) =
      some (.exhausted, []) := by decide

/-- Section 2.4, step 1 at its edge: a HOLD takes the usable count below the minimum stock. -/
theorem test_hold_sets_low_stock :
    notices (.hold (hdr 0) 99999999) readyState = [⟨.lowStock, 255, [17, 0, 1]⟩] ∧
    reply (.hold (hdr 0) 99999999) readyState = some (.ok, [2]) := by decide

/-- 5.11: the wait queue after the sweep of class 9, here class 17: ticket 33 expires, ticket 12 is promoted. -/
theorem test_worked_promotion :
    let t := fun (band : Band) (age : Nat) => Ticket.mk .waiting 4 7 .requested band 17 0 4 1 none none true age
    let s := state { hall0 with
      tickets := [(12, t .plan 9), (33, t .plan 29), (40, t .stop 3)], waitQueues := [(17, [40, 12, 33])] }
    ((after .sweep s).map fun u => u.hall.waitQueues) = some [(17, [40, 12])] ∧
    ((after .sweep s).bind fun u => u.hall.tickets.get 12) = some (t .stop 10) := by decide

/-! ### Reset and the queue -/

theorem test_reset_queue_is_empty : State.reset.pending = [] := by decide

/-- R195: after a cold start the COLD-START flag holds ATTN; IDENTIFY is answered and ATTENTION clears the flag. -/
theorem test_cold_start_flag :
    State.reset.port.pins.attn = true ∧
    ((after (.attention (hdr 0) 0x40) State.reset).map fun t => t.port.pins.attn) = some false := by decide

theorem test_no_table_word_spells_a_command : decodeTableWord 32 0x40000000 = none := by decide

/-! ### Witnesses: for every statement with hypotheses, states and operands that meet them, clause by clause -/

/-- Every value of an option satisfies a condition when the option does so as a Boolean. -/
theorem forall_of_all {α : Type} {o : Option α} {p : α → Prop} [DecidablePred p]
    (h : o.all (fun x => decide (p x)) = true) : ∀ x, o = some x → p x := by
  intro x e
  subst e
  simpa using h

/-- A hall with a session at station 1 and a window running at channel 3. -/
def busyHall (timer : Nat) : Hall :=
  { hall0 with
    stations := hall0.stations.set 1
      { Station.cold with state := .gauging .ready, active := some (geoHalf, corrHalf), generation := 5,
                          session := some ⟨.master, [], timer⟩ }
    channels := hall0.channels.set 3
      { Channel.cold .shut with state := .opened, level := .open, filter := .open, enabled := true,
                                timer := some timer, queue := [] }
    sweep := ⟨60, 60, 58⟩ }

/-- What is due in a state, as the statement lists it. -/
def dueIn (s : State) : Nat :=
  ((List.finRange 4).filter fun n => decide (∃ u ∈ (s.hall.station n).session, u.timer ≤ 1)).length +
    ((List.finRange 16).filter fun c =>
      decide ((s.hall.channel c).state = .opened ∧ ∃ t ∈ (s.hall.channel c).timer, t ≤ 1)).length +
    (if s.hall.sweep.length ≤ s.hall.sweep.count + 1 then 1 else 0)

/-- Timers at 2 and 58 seconds of 60 counted, none due; timers at 1 and 59 seconds counted, three due. -/
theorem witness_SecondCountsRunningTimers :
    (let s := state (busyHall 2)
     s.pending = [] ∧ s.port.start ≠ .due ∧ s.port.serving = none ∧ dueIn s = 0 ∧
      ∀ c, (s.hall.channel c).state ≠ .released) ∧
    (let s := state { busyHall 1 with sweep := ⟨60, 60, 59⟩ }
     s.pending = [] ∧ s.port.start ≠ .due ∧ s.port.serving = none ∧ dueIn s = 3) := by decide

/-- A state that meets the law of the port, whose next step gives a next state. -/
theorem witness_EveryStepKeepsPortLaw :
    let s := { state (hallOf (tool .out)) with pending := [.sweep] }
    PortLaw s ∧ ∃ t, step s = .next t :=
  ⟨⟨by decide, by decide, by decide, by decide, by decide, by decide, by decide, by decide⟩, _, rfl⟩

/-- What an IDENTIFY of client 0 has still to place, its body shortened. -/
def inService : Answer := ⟨0x76, 0, 7, .ok, [720], []⟩

/-- The law also holds while a message is in service, the queue full but for the place kept, its head half read. -/
theorem witness_PortLaw_in_service :
    PortLaw { state hall0 with port := { Port.cold with
      outbound := List.replicate 31 (.notice ⟨.overdue, 255, []⟩), readCount := 1, serving := some inService,
      pins := ⟨true, true, true, Vector.replicate 16 false⟩ } } :=
  ⟨by decide, by decide, by decide, by decide, by decide, by decide, by decide, by decide⟩

theorem witness_EveryStepKeepsTablesCanonical :
    let s := { readyState with pending := [.hold (hdr 0) 99999999] }
    TablesLaw s.hall ∧ ∃ t, step s = .next t :=
  ⟨⟨by decide, by decide, by decide, by decide, by decide, by decide, by decide, by decide, by decide, by decide,
    by decide, by decide⟩, _, rfl⟩

/-- The clients of the test hall. -/
theorem hall0_client (n : Nat) (h : (hall0.client n).station.isSome = true) : n = 9 := by
  by_contra hn
  have h9 : ¬9 = n := fun e => hn e.symm
  simp only [Hall.client, hall0, Table.get] at h
  repeat' split at h
  all_goals simp_all [ClientEntry.station]

theorem witness_EveryStepKeepsClientLaw :
    let s := { state hall0 with pending := [.setClient (hdr 0) 63 (.presetter 3)] }
    ClientLaw s.hall ∧ ∃ t, step s = .next t := by
  refine ⟨⟨by decide, ?_, ?_⟩, _, rfl⟩
  · intro n h
    simp only [state, hall0, Table.get] at h
    repeat' split at h
    all_goals first | omega | simp at h
  · intro m n hm e
    rw [hall0_client m hm, hall0_client n (e ▸ hm)]

theorem witness_EveryStepKeepsIndexAndCapacities :
    let s := { readyState with pending := [.retire (hdr 0) 99999999] }
    (TablesLaw s.hall ∧ IndexLaw s.hall ∧ ∃ t, step s = .next t) ∧ (CapacityLaw s.hall ∧ ∃ t, step s = .next t) := by
  refine ⟨⟨⟨by decide, by decide, by decide, by decide, by decide, by decide, by decide, by decide, by decide,
    by decide, by decide, by decide⟩, indexLaw_of_listed (by decide) (by decide), _, rfl⟩, ⟨?_, ?_, ?_, ?_⟩, _, rfl⟩
  all_goals
    intro n h
    simp only [readyState, state, hallOf, hall0, Hall.cold, Table.get] at h
    first
      | (split at h <;> first | omega | simp at h)
      | simp at h

/-- A hall that meets its law, with something in every table: tools 1 and 2 READY in one chain, tool 3 promised to ticket
1 in a cycle at drawer 3, tool 4 promised to ticket 2 in the handover list, tool 5 mounted at machine 21, tool 6 being
gauged at station 1, tool 7 out; tickets 0, 3 and 4 wait. Class 17 has six usable tools and a minimum stock of six. -/
def lawfulHall : Hall :=
  let r := fun (n : Nat) (status : RecordStatus) (location : Location) =>
    { tool status with tool := n, location := location }
  let t := fun (status : TicketStatus) (band : Band) (age : Nat) =>
    Ticket.mk status 4 7 .requested band 17 0 4 500 none none true age
  { hall0 with
    records :=
      [(0, { r 1 .ready (.drawer 3 0) with measured := some (geo, { meas with age := 2 }) }),
        (1, r 2 .ready (.shelf 8)), (2, r 3 .promised (.drawer 3 1)), (3, r 4 .promised (.shelf 9)),
        (4, r 5 .mounted (.pocket 21 60)), (5, r 6 (.gauging .new) (.shelf 10)), (4095, r 7 .out .none)]
    index := [(1, 0), (2, 1), (3, 2), (4, 3), (5, 4), (6, 5), (7, 4095)]
    chains := [(17, [0, 1])]
    classes := [(17, { cls17 with usable := 6, policy := { cls17.policy with minStock := 6 } })]
    stations := hall0.stations.set 1
      { Station.cold with
        state := .gauging .ready, active := some (geoHalf, corrHalf), generation := 5
        session := some ⟨.tool 5, [], 600⟩ }
    tickets :=
      [(0, t .waiting .plan 29), (1, t (.released 2) .stock 0), (2, t (.promised 3) .plan 0), (3, t .waiting .plan 9),
        (4, t .waiting .stop 0)]
    waitQueues := [(17, [4, 0, 3])]
    channels := hall0.channels.set 3
      { Channel.cold .shut with state := .released, enabled := true, timer := some 60, queue := [1] }
    handover := [2]
    bindings := [(0, ⟨21, 60, 4, false⟩)] }

theorem lawfulHall_tables : TablesLaw lawfulHall :=
  ⟨by decide, by decide, by decide, by decide, by decide, by decide, by decide, by decide, by decide, by decide,
    by decide, by decide⟩

theorem lawfulHall_meets_its_law : HallLaw lawfulHall where
  tables := lawfulHall_tables
  index := indexLaw_of_listed (by decide) (by decide)
  classes := by decide
  life := by decide
  chains := by decide
  usable := by decide
  collections := by decide +kernel
  promises := by decide
  cycles := by decide
  bands := by decide
  bindings := by decide
  sessions := by decide

/-- A queue of the outbound port with that many notices. -/
def waiting (n : Nat) : List OutMessage := List.replicate n (.notice ⟨.overdue, 255, []⟩)

/-- The hall's state with 28 messages waiting, the most that leave the port open. -/
def fullState (s : Hall) : State := { state s with port := { Port.cold with outbound := waiting 28 } }

theorem witness_DecodingReadsEncodedRequest :
    let i := Instr.storeProgram (hdr 0) 15 (List.replicate 244 0x0a)
    i.kind = some .storeProgram ∧ i.header = some (hdr 0) ∧ i.wellFormed = true ∧
    kindBytesOk (List.replicate 244 0x0a) = true := by decide +kernel

theorem witness_WritingWordsEqualsPresenting :
    let i := Instr.usage ⟨21, 0xffffffff⟩ 8 60
    i.kind = some .usage ∧ i.header = some ⟨21, 0xffffffff⟩ ∧ i.wellFormed = true ∧ (fullState hall0).portOpen := by
  decide

theorem witness_EveryRequestGetsOneResponse :
    let i := Instr.wipe (hdr 0)
    i.kind = some .wipe ∧ i.header = some (hdr 0) ∧ i.wellFormed = true ∧ (fullState hall0).portOpen := by decide

theorem witness_RefusalChangesNothing :
    let i := Instr.retire (hdr 0) 100000000
    i.kind = some .retire ∧ i.header = some (hdr 0) ∧ i.wellFormed = true ∧ (fullState hall0).portOpen ∧
    (answerRequest .retire (hdr 0) i (fullState hall0).hall).code.carriedOut = false := by decide

/-- Client 64 is above 63; client 63 has role NONE; a presetter may send no WIPE. -/
theorem witness_SenderIsCheckedFirst :
    (Instr.wipe (hdr 64)).kind = some .wipe ∧ (Instr.wipe (hdr 64)).wellFormed = true ∧ (state hall0).portOpen ∧
    63 < (hdr 64).client.toNat ∧
    ((hdr 63).client.toNat ≤ 63 ∧ roleAllows ((state hall0).hall.client (hdr 63).client.toNat).role .wipe = false) ∧
    ((hdr 9).client.toNat ≤ 63 ∧ roleAllows ((state hall0).hall.client (hdr 9).client.toNat).role .wipe = false) := by
  decide

/-- The header of a RETIRE whose body is one word too long. -/
def longRetire : Word := headerWord 1 2 0 Kind.retire.code 0

/-- The types 0 and 2, client 64, body length 63, kind code 0, and a RETIRE with a body too long. -/
theorem witness_MalformedMessageIsAnswered :
    (state hall0).portOpen ∧
    ((0 = bodyLengthOf 0x00000000) ∧ typeOf 0x00000000 ≠ 1) ∧ ((0 = bodyLengthOf 0x80000000) ∧ typeOf 0x80000000 ≠ 1) ∧
    63 < (clientOf 0x40400000).toNat ∧ 62 < bodyLengthOf 0x7f000000 ∧ (List.replicate 63 (0 : Word)).length = 63 ∧
    Kind.ofCode (kindCodeOf 0x40000000) = none ∧
    (Kind.ofCode (kindCodeOf longRetire) = some .retire ∧ [(1 : Word), 2].length = bodyLengthOf longRetire ∧
      roleAllows ((state hall0).hall.client (clientOf longRetire).toNat).role .retire = true ∧
      decodeBody .retire ⟨clientOf longRetire, 7⟩ [1, 2] = none) ∧
    244 < (List.replicate 245 (0 : Byte)).length ∧ oneMessage [] = false ∧ oneMessage [0x40000000] = false := by
  decide +kernel

/-- Sixteen whole messages wait while 29 outbound places are taken. -/
def readyLow : State :=
  { state hall0 with port := { Port.cold with
      inbound := List.replicate 16 [0x40000000, 7], outbound := waiting 29 } }

theorem witness_WordWrittenJoinsInboundQueue :
    (state hall0).port.inbound = [] ∧
    ([[0x7e000000#32]] = [0x7e000000#32 :: []] ∧ ([] : List Word).length + 1 < 1 + bodyLengthOf 0x7e000000) ∧
    (List.replicate 61 (0 : Word)).length + 1 < 1 + bodyLengthOf 0x7e000000 ∧ readyLow.port.readyLine = false := by
  decide

/-- A head message of two words with none and with one of them read; 29 messages of which the last word of the first is
about to be read, and sixteen whole messages that wait. -/
theorem witness_MessageReadFreesItsPlace :
    (state hall0).port.outbound = [] ∧
    (∀ k ∈ [0, 1],
      let s := { fullState hall0 with port := { (fullState hall0).port with readCount := k } }
      s.port.outbound = .notice ⟨.overdue, 255, []⟩ :: waiting 27 ∧ s.port.inbound = [] ∧ s.port.start = .none ∧
      (OutMessage.notice ⟨.overdue, 255, []⟩).words[s.port.readCount]?.isSome = true) ∧
    (0 + 1 < (OutMessage.notice ⟨.overdue, 255, []⟩).words.length ∧
      1 + 1 = (OutMessage.notice ⟨.overdue, 255, []⟩).words.length) ∧
    (let s := { readyLow with port := { readyLow.port with readCount := 1 } }
     s.port.outbound = .notice ⟨.overdue, 255, []⟩ :: waiting 28 ∧ (waiting 28).length = 28 ∧
      s.port.start = .none ∧ s.port.serving = none ∧
      (OutMessage.notice ⟨.overdue, 255, []⟩).words[s.port.readCount]? = some 0 ∧
      s.port.inbound = (0x40000000 :: 7 :: []) :: List.replicate 15 [0x40000000, 7] ∧
      ([] : List Word).length = bodyLengthOf 0x40000000) := by decide

theorem witness_NoticeDroppedWhenQueueFull :
    (∀ n ∈ [30, 31, 32], ({ state hall0 with port := { Port.cold with outbound := waiting n } }).port.serving = none) ∧
    ((waiting 31).length < 32 ∧ 32 ≤ (waiting 32).length) ∧ ((waiting 30).length < 31 ∧ 31 ≤ (waiting 31).length) ∧
    ({ Port.cold with serving := some inService }).serving = some inService := by decide

/-- Drawer 3 is enabled and shut, n notices wait and a request is in service. -/
def servingState (n : Nat) : State :=
  let drawer : Channel := { Channel.cold .shut with state := .idle, enabled := true }
  { state { hall0 with channels := hall0.channels.set 3 drawer } with
    port := { Port.cold with outbound := waiting n, serving := some inService } }

/-- R190: with only the kept place free, a notice of a line event is dropped and OVERRUN is set; the unit's state stands
as if it had been placed. -/
theorem test_notice_leaves_the_kept_place :
    ((after (.opened 3) (servingState 30)).map fun t => (t.port.outbound.length, t.hall.flags)) = some (31, 0x42) ∧
    ((after (.opened 3) (servingState 31)).map fun t => (t.port.outbound.length, t.hall.flags)) = some (31, 0x43) := by
  decide

/-- R187: the response of an IDENTIFY is read word by word, the header first; its first two words. -/
theorem test_read_word_by_word :
    (((after (.identify (hdr 0)) (state hall0)).bind fun t => after .messageRead t).map fun t =>
        (t.port.readOut, t.port.readCount, t.port.outbound.length)) =
      some (headerWord 2 14 0 Kind.identify.code 0, 1, 1) ∧
    ((((after (.identify (hdr 0)) (state hall0)).bind fun t => after .messageRead t).bind fun t =>
        after .messageRead t).map fun t => (t.port.readOut, t.port.readCount)) = some (7, 2) := by decide

/-- Channel 3 stands IDLE; all flags are to be cleared. -/
def attentionState : State :=
  let drawer : Channel := { Channel.cold .shut with state := .idle, enabled := true }
  state { hall0 with channels := hall0.channels.set 3 drawer }

/-- R196, R201: an ATTENTION is taken with its last word, so the flag of a drawer forced open after it is not in its
response and stays set; one forced open before it is in the response and is cleared. -/
theorem test_attention_against_a_later_event :
    let words := (encode (.attention (hdr 0) 0x7f)).map Instr.messageWordWritten
    let placed := fun commands : List Instr =>
      match runAll commands attentionState with
      | .next t => ((idle t).port.outbound.filterMap fun m =>
          match m with
          | .response _ _ _ _ body => some body
          | .notice _ => none, (idle t).hall.flags)
      | _ => ([], 0)
    placed (words ++ [.opened 3]) = ([[0x40, 0x7f]], 0x02) ∧
      placed (.opened 3 :: words) = ([[0x42, 0x7f]], 0x00) := by decide +kernel

def startState (p : StartPhase) : State :=
  { state hall0 with port := { Port.cold with start := p, outbound := [.response 0x74 0 7 .ok []] } }

theorem witness_RestartWaitsForItsResponse :
    (fullState hall0).admits (hdr 0) .restart ∧
    ((startState .pending).port.start = .pending ∧
      (startState .pending).port.outbound = .response 0x74#8 0 7 .ok [] :: []) ∧
    ((OutMessage.response 0x74 0 7 .ok []).words[1]? = some 7 ∧
      1 + 1 = (OutMessage.response 0x74 0 7 .ok []).words.length) ∧
    ({ startState .none with port := { Port.cold with serving := some inService } }).port.serving ≠ none ∧
    (startState .due).port.start = .due ∧ (startState .none).port.start ≠ .due ∧
    ((Instr.identify (hdr 0)).kind = some .identify ∧ (Instr.identify (hdr 0)).header = some (hdr 0) ∧
      (Instr.identify (hdr 0)).wellFormed = true ∧ (startState .pending).port.start ≠ .none ∧
      (startState .due).port.start ≠ .none ∧ (startState .pending).port.inbound = []) := by decide

/-- A record in each state the clauses name, a defined class and an undefined one; the tables and the index of a hall that
meets its law. -/
theorem witness_WarmStartKeepsRetainedMemory :
    (∀ r ∈ [tool (.gauging .new), tool (.gauging .ready), tool (.gauging (.held .audit)), tool .promised,
        { tool .promised with opened := true }, tool .mounted],
      (stateOf r).hall.records.get 4095 = some r ∧ (stateOf r).hall.records.get 0 = none) ∧
    ((tool .promised).opened = false ∧ ({ tool .promised with opened := true } : Record).opened = true ∧
      (tool .mounted).status.isGauging = false ∧ (tool .mounted).status ≠ .promised) ∧
    (readyState.hall.classes.get 17 = some cls17 ∧ readyState.hall.classes.get 255 = none) ∧
    TablesLaw lawfulHall ∧ IndexLaw lawfulHall :=
  ⟨by decide, by decide, by decide, lawfulHall_tables, lawfulHall_meets_its_law.index⟩

/-- Client 63 becomes the presetter of station 3; machine 21 keeps its role while it has work. -/
theorem witness_SetClientWritesTheEntry :
    ((state hall0).admits (hdr 0) .setClient ∧ 1 ≤ (63#32).toNat ∧ (63#32).toNat ≤ 63 ∧
      clientEntryOf (.presetter 3) = some (.presetter 3) ∧
      (∀ n, (ClientEntry.presetter 3).station = some n → stationTaken 63 n (state hall0).hall = false) ∧
      clientHasWork 63 (state hall0).hall = false) ∧
    (clientEntryOf (.machine 15 240 0 (-1000000)) = some (.machine 15 240 1 (-1000000)) ∧
      (ClientEntry.machine 15 240 1 (-1000000)).role = (hall0.client 21).role ∧
      (ClientEntry.machine 15 240 1 (-1000000)).station = (hall0.client 21).station) ∧
    clientEntryOf (.machine 0 1 256 1000000) = some (.machine 0 1 255 1000000) ∧
    (63 < (64#32).toNat ∧ (0#32).toNat = 0 ∧ 3 < (4#32).toNat ∧ 15 < (16#32).toNat ∧ (0#32).toNat < 1 ∧
      240 < (241#32).toNat ∧ (-1000001#32).toInt < -1000000 ∧ 1000000 < (1000001#32).toInt) ∧
    ((1#32).toNat = (1 : Fin 4).val ∧ 9 ≠ (63#32).toNat ∧ ((state hall0).hall.client 9).station = some 1) ∧
    ((state lawfulHall).admits (hdr 0) .setClient ∧
      (∀ n ∈ [4, 9, 21], (ClientEntry.none.role ≠ (lawfulHall.client n).role)) ∧
      (∃ x ∈ lawfulHall.bindings, x.2.client = 21) ∧ (∃ x ∈ lawfulHall.tickets, x.2.requester = 4) ∧
      ((lawfulHall.client 9).station = some 1 ∧ (lawfulHall.station 1).state.isGauging = true) ∧
      clientEntryOf .none = some .none ∧ ClientEntry.none.station = none) := by
  refine ⟨⟨by decide, by decide, by decide, by decide, ?_, by decide⟩, by decide, by decide, by decide, by decide,
    by decide⟩
  intro n h
  obtain rfl : (3 : Fin 4) = n := by simpa [ClientEntry.station] using h
  decide

theorem witness_AttentionReportsThenClears :
    (fullState hall0).admits (hdr 0) .attention ∧ (fullState hall0).admits (hdr 0) .setEnables := by decide

/-- Each table, with a request that is not its writer. -/
theorem witness_EachTableHasItsWriters :
    (Instr.wipe (hdr 0)).kind ≠ some .setClient ∧ (Instr.wipe (hdr 0)).kind ≠ some .storeProgram ∧
    (Instr.wipe (hdr 0)).kind ≠ some .setEnables ∧ (Instr.wipe (hdr 0)).kind ≠ some .setSweep ∧
    (Instr.usage (hdr 21) 8 60).kind ∉
      [some .mount, some .dismount, some .protect, some .unprotect, some .wipe] ∧
    (Instr.usage (hdr 21) 8 60).kind ∉ [some .enrol, some .retire, some .wipe] ∧
    (Instr.usage (hdr 21) 8 60).kind ≠ some .attention ∧ hall0.hasFlag .coldStart = true := by decide

theorem witness_WipeEmptiesTheHall :
    (readyState.admits (hdr 0) .wipe ∧ (∀ n, (readyState.hall.station n).state.isGauging = false) ∧
      (∀ c, (readyState.hall.channel c).state = .idle ∨ (readyState.hall.channel c).state = .off)) ∧
    ((state (busyHall 1)).admits (hdr 0) .wipe ∧
      (∃ n, ((state (busyHall 1)).hall.station n).state.isGauging = true) ∧
      (∃ c, ((state (busyHall 1)).hall.channel c).state ≠ .idle ∧
        ((state (busyHall 1)).hall.channel c).state ≠ .off)) := by decide

/-! Records and classes -/

theorem witness_EnrolCreatesNewRecord :
    readyState.admits (hdr 0) .enrol ∧ 1 ≤ (1#32).toNat ∧ (1#32).toNat ≤ 99999999 ∧ 1 ≤ (17#32).toNat ∧
    (17#32).toNat ≤ 255 ∧ cribLocation (.shelf 4095) = some (.shelf 4095) ∧
    cribLocation (.drawer 15 63) = some (.drawer 15 63) ∧ readyState.hall.classes.get 17 = some cls17 ∧
    readyState.hall.index.get 1 = none ∧ readyState.hall.records.lowestFree 4096 = some 0 := by decide

/-- Tool 99,999,999 in slot 4095 in each state; tool numbers 0, 1 and 100,000,000. -/
theorem witness_RetireFreesSlotAndNumber :
    (state hall0).admits (hdr 0) .retire ∧ (0#32).toNat < 1 ∧ 99999999 < (100000000#32).toNat ∧
    (1 ≤ (1#32).toNat ∧ (1#32).toNat ≤ 99999999 ∧ (state hall0).hall.index.get 1 = none) ∧
    (∀ x ∈ [RecordStatus.gauging .new, .gauging (.held .manual), .promised, .out, .mounted, .new, .held .rejected,
        .held .manual],
      (stateOf (tool x)).admits (hdr 0) .retire ∧ (stateOf (tool x)).holds 99999999 4095 (tool x) ∧
      (tool x).status = x) ∧
    (readyState.admits (hdr 0) .retire ∧ readyState.holds 99999999 4095 (tool .ready) ∧
      readyState.hall.classes.get 17 = some cls17) := by decide

theorem witness_HoldAndMoveBinChangeOneField :
    ((stateOf (tool .new)).admits (hdr 0) .hold ∧ (stateOf (tool .new)).holds 99999999 4095 (tool .new)) ∧
    (readyState.admits (hdr 0) .hold ∧ readyState.holds 99999999 4095 (tool .ready) ∧
      readyState.hall.classes.get 17 = some cls17) ∧
    (readyState.admits (hdr 4) .moveBin ∧ readyState.holds 99999999 4095 (tool .ready) ∧
      cribLocation (.shelf 4095) = some (.shelf 4095)) ∧
    (∀ x ∈ [RecordStatus.new, .held .worn],
      (stateOf (tool x)).admits (hdr 4) .moveBin ∧ (stateOf (tool x)).holds 99999999 4095 (tool x)) := by decide

/-- Each hold reason; a measurement of age 2 is fit and one of age 3 is not (validity 3); regrind counts 2 and 3. -/
theorem witness_ReleaseHoldDecidesByReason :
    (∀ x ∈ [HoldReason.worn, .rejected, .stale, .suspect, .audit, .manual],
      (stateOf (tool (.held x))).admits (hdr 0) .releaseHold ∧
      (stateOf (tool (.held x))).holds 99999999 4095 (tool (.held x)) ∧
      (stateOf (tool (.held x))).hall.classes.get 17 = some cls17 ∧
      (stateOf (tool (.held x))).noTaker 17) ∧
    ((∃ g m, (tool (.held .audit)).measured = some (g, m) ∧ 0 < (tool (.held .audit)).life ∧
        (cls17.policy.validity = 0 ∨ m.age < cls17.policy.validity))) ∧
    ¬(∃ g m, ({ tool (.held .audit) with measured := some (geo, { meas with age := 3 }) }).measured = some (g, m) ∧
        0 < 120 ∧ (cls17.policy.validity = 0 ∨ m.age < cls17.policy.validity)) ∧
    (2 + 1 ≤ cls17.policy.maxRegrinds ∧ (2 + 1) * cls17.policy.regrindLoss < cls17.shape.fullLife) ∧
    cls17.policy.maxRegrinds < 3 + 1 := by
  refine ⟨by decide, ⟨geo, meas, by decide⟩, ?_, by decide, by decide⟩
  rintro ⟨g, m, h, -, hm⟩
  simp only [Option.some.injEq, Prod.mk.injEq] at h
  obtain ⟨-, rfl⟩ := h
  revert hm
  decide

/-- Three records in chain order: equal lives by tool number. -/
def chainRecords : Table Record :=
  [(0, { tool .ready with tool := 10, life := 100 }), (1, { tool .ready with tool := 11, life := 120 }),
    (2, { tool .ready with tool := 12, life := 120 })]

theorem witness_EveryStepKeepsHallLaw :
    (let s := { state lawfulHall with pending := [.sweep] }
     HallLaw s.hall ∧ ∃ t, step s = .next t) ∧
    (let records := chainRecords.put 4095 (tool .ready)
     records.get 4095 = some (tool .ready) ∧
      (∀ x ∈ [0, 1, 2], ∃ rx, records.get x = some rx ∧ rx.tool ≠ (tool .ready).tool) ∧
      [0, 1, 2].Pairwise fun a b => ∀ ra rb, records.get a = some ra → records.get b = some rb →
        ra.life < rb.life ∨ (ra.life = rb.life ∧ ra.tool < rb.tool)) := by
  refine ⟨⟨lawfulHall_meets_its_law, _, rfl⟩, by decide, ?_, ?_⟩
  · intro x hx
    simp only [List.mem_cons, List.not_mem_nil, or_false] at hx
    rcases hx with rfl | rfl | rfl
    · exact ⟨_, rfl, by decide⟩
    · exact ⟨_, rfl, by decide⟩
    · exact ⟨_, rfl, by decide⟩
  · have key : [0, 1, 2].Pairwise fun a b : Nat => ∀ ra ∈ (chainRecords.put 4095 (tool .ready)).get a,
        ∀ rb ∈ (chainRecords.put 4095 (tool .ready)).get b,
          ra.life < rb.life ∨ (ra.life = rb.life ∧ ra.tool < rb.tool) := by decide
    exact key.imp fun h ra rb ha hb => h ra ha rb hb

theorem witness_RecordClassAndTicketQueriesAnswer :
    (readyState.admits (hdr 0) .queryTool ∧ readyState.holds 99999999 4095 (tool .ready)) ∧
    (readyState.admits (hdr 0) .findClass ∧ readyState.hall.classes.get 17 = some cls17 ∧ (4095#32).toNat ≤ 4095) ∧
    readyState.admits (hdr 0) .queryClass ∧
    (readyState.admits (hdr 0) .queryTicket ∧ (127#32).toNat ≤ 127) ∧
    (readyState.admits (hdr 0) .queryIssue ∧ (0#32).toNat = 0 ∧ (127#32).toNat ≤ 127) ∧
    ((17#32).toNat ≤ 255 ∧ (readyState.hall.classes.get (17#32).toNat).isSome = true) := by decide

theorem witness_UnitAndPortQueriesAnswer :
    let s := state (busyHall 1)
    s.admits (hdr 0) .queryStation ∧ (3#32).toNat = (3 : Fin 4).val ∧
    s.admits (hdr 0) .queryChannel ∧ (15#32).toNat = (15 : Fin 16).val ∧ (127#32).toNat ≤ 127 ∧
    s.admits (hdr 0) .queryHandover ∧
    (s.admits (hdr 21) .queryPocket ∧ (s.hall.client 21).role = .machine ∧ (21#32).toNat = (hdr 21).client.toNat ∧
      1 ≤ (1#32).toNat ∧ (240#32).toNat ≤ 240) ∧
    (s.admits (hdr 0) .queryPocket ∧ (s.hall.client 0).role ≠ .machine ∧ (63#32).toNat ≤ 63) ∧
    (s.admits (hdr 0) .queryProgram ∧ s.hall.programs.get (3#32).toNat = some ⟨steps3, bytes3, 10⟩) ∧
    s.admits (hdr 21) .identify ∧
    (s.admits (hdr 9) .queryClient ∧ (9#32).toNat = (hdr 9).client.toNat) ∧
    (s.admits (hdr 0) .queryClient ∧ (63#32).toNat ≤ 63 ∧ (s.hall.client 0).role = .toolroom) := by decide

def shapeWords17 : ShapeWords := ⟨2670000, 132700, -500, 200, 4, -50, 50, 100, .count, 1000⟩

theorem witness_DefineAndDeleteClassWriteTheEntry :
    (readyState.admits (hdr 0) .defineClass ∧ 1 ≤ (255#32).toNat ∧ (255#32).toNat ≤ 255 ∧
      (shapeOf shapeWords17).inRange = true ∧ readyState.hall.classes.get 255 = none) ∧
    (readyState.hall.classes.get (17#32).toNat = some cls17 ∧ inUse 17 (state hall0).hall = false ∧
      shapeOf shapeWords17 = cls17.shape) ∧
    (inUse (17#32).toNat readyState.hall = true ∧ shapeOf { shapeWords17 with topGrade := 5 } ≠ cls17.shape ∧
      (shapeOf { shapeWords17 with topGrade := 5 }).inRange = true) ∧
    ((state hall0).admits (hdr 0) .deleteClass ∧ (state hall0).hall.classes.get (17#32).toNat = some cls17 ∧
      recordsOf (17#32).toNat (state hall0).hall = 0 ∧ ticketsOf (17#32).toNat (state hall0).hall = 0) ∧
    0 < recordsOf (17#32).toNat readyState.hall := by decide

theorem witness_StatsReportsThenClears :
    readyState.admits (hdr 0) .stats ∧ ¬(1 ≤ (0#32).toNat ∧ (0#32).toNat ≤ 255) ∧
    ¬(1 ≤ (256#32).toNat ∧ (256#32).toNat ≤ 255) ∧
    (1 ≤ (255#32).toNat ∧ (255#32).toNat ≤ 255 ∧ readyState.hall.classes.get (255#32).toNat = none) ∧
    (1 ≤ (1#32).toNat ∧ readyState.hall.classes.get (1#32).toNat = none) ∧
    readyState.hall.classes.get (17#32).toNat = some cls17 := by decide

/-! Stations and sessions -/

/-- The test hall with station 1 as given; client 9 is its presetter. -/
def stationHall (st : Station) : Hall := { hall0 with stations := hall0.stations.set 1 st }

/-- A calibrated station. -/
def calibrated (x : StationState) : Station :=
  { Station.cold with state := x, active := some (geoHalf, corrHalf), generation := 5 }

def geoWords : GeometryWords := ⟨327000, 327680, 1000000, 0, 1500000, 250000⟩

def corrWords : CorrectionWords := ⟨⟨false, 3⟩, ⟨true, 2⟩, 1150, 20⟩

theorem witness_CalibrationWriteStagesOrActivates :
    (1#32).toNat = (1 : Fin 4).val ∧ mayCalibrate (hall0.client (hdr 9).client.toNat) 1 = true ∧
    mayCalibrate (hall0.client (hdr 0).client.toNat) 1 = true ∧ (geometryHalfOf geoWords).inRange = true ∧
    (correctionHalfOf corrWords).inRange = true ∧
    (∀ x ∈ [StationState.uncal, .ready, .drift, .gauging .ready],
      let halves := { calibrated x with stagedGeometry := some geoHalf, stagedCorrection := some corrHalf }
      (state (stationHall (calibrated x))).admits (hdr 9) .calGeometry ∧
      (state (stationHall (calibrated x))).admits (hdr 0) .calCorrection ∧
      ((state (stationHall (calibrated x))).hall.station 1).stagedCorrection = none ∧
      ((state (stationHall (calibrated x))).hall.station 1).stagedGeometry = none ∧
      (state (stationHall halves)).admits (hdr 9) .calGeometry ∧
      (state (stationHall halves)).admits (hdr 0) .calCorrection ∧
      ((state (stationHall halves)).hall.station 1).stagedCorrection = some corrHalf ∧
      ((state (stationHall halves)).hall.station 1).stagedGeometry = some geoHalf) ∧
    (StationState.drift.isGauging = false ∧ (StationState.gauging .ready).isGauging = true) := by decide

theorem witness_WindowAndPeriodAreClamped :
    (state hall0).admits (hdr 0) .configureStation ∧ (3#32).toNat = (3 : Fin 4).val ∧
    (state hall0).admits (hdr 0) .setSweep := by decide

theorem witness_HoldByCalibrationHoldsMatchingReadyTools :
    readyState.admits (hdr 0) .holdByCalibration ∧ readyState.hall.records.wf ∧ (1#32).toNat = (1 : Fin 4).val ∧
    1 ≤ (5#32).toNat ∧ 1 ≤ (1#32).toNat ∧ (65535#32).toNat ≤ 65535 ∧ measuredAt 1 5 (tool .ready) = true := by decide

theorem witness_StationStateDecidesGaugeBegin :
    ∀ x ∈ [StationState.uncal, .ready, .drift, .gauging .ready, .gauging .drift],
      (state (stationHall (calibrated x))).admits (hdr 9) .gaugeBegin ∧
      ((state (stationHall (calibrated x))).hall.client 9).station = some 1 ∧
      ((state (stationHall (calibrated x))).hall.station 1).state = x ∧ (1#32) ≠ 0 := by decide

/-- Station 1 and one record, the record as given. -/
def sessionState (st : Station) (r : Record) : State :=
  state { hallOf r with stations := hall0.stations.set 1 st }

theorem witness_GaugeBeginOpensSession :
    (∀ e ∈ [EntryState.ready, .drift],
      (state (stationHall (calibrated e.state))).admits (hdr 9) .gaugeBegin ∧
      ((state (stationHall (calibrated e.state))).hall.client 9).station = some 1 ∧
      ((state (stationHall (calibrated e.state))).hall.station 1).state = e.state) ∧
    (∀ x ∈ [RecordStatus.new, .held .rejected, .held .manual, .ready],
      (sessionState (calibrated .ready) (tool x)).admits (hdr 9) .gaugeBegin ∧
      ((sessionState (calibrated .ready) (tool x)).hall.client 9).station = some 1 ∧
      ((sessionState (calibrated .ready) (tool x)).hall.station 1).state = .ready ∧
      (sessionState (calibrated .ready) (tool x)).holds 99999999 4095 (tool x) ∧
      (sessionState (calibrated .ready) (tool x)).hall.classes.get 17 = some cls17) := by decide

/-- A station with a session of that many points. -/
def measuring (kind : SessionKind) (points : List Point) : Station :=
  { calibrated (.gauging .ready) with session := some ⟨kind, points, 600⟩ }

theorem witness_GaugePointAppendsAndRestartsTimer :
    (∀ st ∈ [calibrated .ready, measuring .master (List.replicate 16 ⟨0, 0⟩),
        measuring .master (List.replicate 15 ⟨0, 0⟩), measuring .master []],
      (state (stationHall st)).admits (hdr 9) .gaugePoint ∧
      ((state (stationHall st)).hall.client 9).station = some 1 ∧ (state (stationHall st)).hall.station 1 = st) ∧
    ((calibrated .ready).session = none ∧ (measuring .master []).session = some ⟨.master, [], 600⟩) ∧
    (let inRange := fun z x : Word => -8388608 ≤ z.toInt ∧ z.toInt ≤ 8388607 ∧ -8388608 ≤ x.toInt ∧ x.toInt ≤ 8388607
     ¬inRange (-8388609) 0 ∧ ¬inRange 0 8388608 ∧ inRange (-8388608) 8388607) ∧
    (List.replicate 16 (Point.mk 0 0)).length = 16 ∧ (List.replicate 15 (Point.mk 0 0)).length < 16 := by decide

/-- The points of the worked reduction (4.7) and of the worked master check. -/
def toolPoints : List Point := [⟨1234567, -23456⟩, ⟨1234501, -23470⟩]

def masterPoints : List Point := [⟨1000008, 0⟩, ⟨1000006, 1⟩]

def gauged : Record := { tool (.gauging .new) with measured := none }

theorem witness_GaugeEndAppliesTheVerdict :
    (let s := sessionState (measuring (.tool 4095) toolPoints) gauged
     s.admits (hdr 9) .gaugeEnd ∧ (s.hall.client 9).station = some 1 ∧
      (s.hall.station 1).session = some ⟨.tool 4095, toolPoints, 600⟩ ∧
      (s.hall.station 1).active = some (geoHalf, corrHalf) ∧ s.hall.records.get 4095 = some gauged ∧
      s.hall.classes.get 17 = some cls17 ∧ s.noTaker 17) ∧
    (let m := fun T : Int => gather (reducePoint geoHalf corrHalf T ⟨1234567, -23456⟩)
      [reducePoint geoHalf corrHalf T ⟨1234501, -23470⟩]
     classify cls17.shape (m 2230) = none ∧ classify cls17.shape (m (-1000)) = some .length) ∧
    (let s := state (stationHall (measuring .master masterPoints))
     s.admits (hdr 9) .gaugeEnd ∧ (s.hall.client 9).station = some 1 ∧
      (s.hall.station 1).session = some ⟨.master, masterPoints, 600⟩ ∧
      (s.hall.station 1).active = some (geoHalf, corrHalf) ∧ boundClient 1 s.hall = some 9) ∧
    (let m := fun T : Int => gather (reducePoint geoHalf corrHalf T ⟨1000008, 0⟩)
      [reducePoint geoHalf corrHalf T ⟨1000006, 1⟩]
     ((m 2230).saturated = false ∧ (((m 2230).length - 1500000).natAbs : Int) ≤ 20 ∧
      (((m 2230).radius - 250000).natAbs : Int) ≤ 20) ∧
     ¬((((m 6000).length - 1500000).natAbs : Int) ≤ 20)) := by decide

theorem witness_SessionEndActivatesPendingSet :
    (measuring .master []).pending = false ∧
    (let st := { measuring .master [] with
        stagedGeometry := some geoHalf, stagedCorrection := some corrHalf, pending := true }
     st.pending = true ∧ st.stagedGeometry = some geoHalf ∧ st.stagedCorrection = some corrHalf) := by decide

theorem witness_AbortReturnsRecordAndStation :
    (let s := state (stationHall (measuring .master []))
     (s.hall.station 1).session = some ⟨.master, [], 600⟩ ∧ (s.hall.station 1).state = .gauging .ready ∧
      s.admits (hdr 9) .gaugeAbort ∧ (s.hall.client 9).station = some 1 ∧ boundClient 1 s.hall = some 9 ∧
      s.roomFor 1 ∧ (s.hall.station 0).session = none) ∧
    (∀ x ∈ [Resume.new, .held .rejected, .ready],
      let s := sessionState (measuring (.tool 4095) toolPoints) (tool (.gauging x))
      (s.hall.station 1).session = some ⟨.tool 4095, toolPoints, 600⟩ ∧ (s.hall.station 1).state = .gauging .ready ∧
      s.admits (hdr 9) .gaugeAbort ∧ s.hall.records.get 4095 = some (tool (.gauging x)) ∧
      s.hall.classes.get 17 = some cls17 ∧ s.noTaker 17 ∧ boundClient 1 s.hall = some 9 ∧ s.roomFor 1) ∧
    (Resume.new ≠ .ready ∧ Resume.held .rejected ≠ .ready) := by decide

theorem witness_MeasuringArithmeticIsExact : 0 < 1 ∧ 65535 ≤ 65535 ∧ 255 ≤ 255 := by decide

/-! Tickets -/

/-- A ticket of crib client 4 for class 17. -/
def ticket (status : TicketStatus) : Ticket := ⟨status, 4, 9, .requested, .plan, 17, 0, 4, 1, none, none, true, 0⟩

/-- An enabled, idle channel whose drawer is shut. -/
def idleChannel : Channel := { Channel.cold .shut with state := .idle, enabled := true }

/-- Channel 3 as given, the tool READY in its drawer, and ticket 127 as given. -/
def channelHall (c : Channel) (r : Record) (t : Ticket) : Hall :=
  { hallOf r with channels := hall0.channels.set 3 c, tickets := [(127, t)] }

theorem witness_PromiseJoinsRecordAndTicket :
    let s := channelHall idleChannel (tool .ready) (ticket .waiting)
    ((tool .ready).location = .drawer 3 63 ∧ (s.channel 3).enabled = true ∧ (s.channel 3).state = .idle ∧
      s.mode = .online ∧ (s.channel 3).queue = []) ∧
    (({ s with mode := .offline } : Hall).mode ≠ .online ∧
      ((channelHall { idleChannel with state := .released } (tool .ready) (ticket .waiting)).channel 3).state ≠ .idle) ∧
    (∀ c b, ({ tool .ready with location := .shelf 0 } : Record).location = .drawer c b →
      (s.channel c).enabled = false) := by
  refine ⟨by decide, by decide, ?_⟩
  intro c b h
  simp at h

/-- Ticket 126 needs more life than the tool has and stands before ticket 127, which the tool meets. -/
def offerHall (mode : IssueMode) : Hall :=
  { channelHall idleChannel (tool .ready) (ticket .waiting) with
    mode := mode
    tickets := [(126, { ticket .waiting with life := 121 }), (127, { ticket .waiting with life := 120 })]
    waitQueues := [(17, [126, 127])] }

theorem witness_OfferServesFirstTicketMet :
    let met := fun t : Ticket => t.lowGrade ≤ (tool .ready).grade ∧ (tool .ready).grade ≤ t.highGrade ∧
      t.life ≤ (tool .ready).life
    ((offerHall .online).records.get 4095 = some (tool .ready) ∧ (offerHall .online).mode = .online ∧
      (offerHall .online).waitQueues.list 17 = [126] ++ 127 :: [] ∧
      (offerHall .online).tickets.get 127 = some { ticket .waiting with life := 120 } ∧
      met { ticket .waiting with life := 120 } ∧
      (offerHall .online).tickets.get 126 = some { ticket .waiting with life := 121 } ∧
      ¬met { ticket .waiting with life := 121 }) ∧
    (offerHall .draining).mode ≠ .online := by decide

def byClass : IssueForm := ⟨false, 17, .plan, true, some (4, 4), some 21, 1000000⟩

def byTool : IssueForm := ⟨true, 99999999, .stop, true, none, none, 0⟩

/-- A hall whose every ticket is in use. -/
def fullPool (r : Record) : State :=
  state { hallOf r with tickets := (List.range 128).map fun n => (n, ticket .waiting) }

/-- Form by class: grades 4 to 4, life 1,000,000; the tool meets a life of 120. Form by tool. -/
theorem witness_IssuePromisesOrQueues :
    (readyState.admits (hdr 4) .issue ∧ readyState.hall.tickets.lowestFree 128 = some 0 ∧
      readyState.hall.classes.get 17 = some cls17) ∧
    ((∀ g, byClass.range = some g → g.1.toNat ≤ g.2.toNat) ∧ byClass.life.toNat ≤ 1000000 ∧
      (∀ d, byClass.dest = some d → d.toNat ≤ 63 ∧ (readyState.hall.client d.toNat).role = .machine)) ∧
    ((∀ g, byTool.range = some g → g.1.toNat ≤ g.2.toNat) ∧ byTool.life.toNat ≤ 1000000 ∧ byTool.dest = none) ∧
    (byTool.byTool = true ∧ readyState.holds byTool.target 4095 (tool .ready) ∧ readyState.hall.mode = .online) ∧
    (byClass.byTool = false ∧ byClass.target.toNat = 17 ∧ readyState.hall.chains.list 17 = [] ++ 4095 :: [] ∧
      readyState.hall.records.get 4095 = some (tool .ready) ∧
      (4 ≤ (tool .ready).grade ∧ (tool .ready).grade ≤ 4 ∧ 120 ≤ (tool .ready).life)) ∧
    (∀ x ∈ readyState.hall.chains.list 17, ∀ u, readyState.hall.records.get x = some u →
      ¬(4 ≤ u.grade ∧ u.grade ≤ 4 ∧ 1000000 ≤ u.life)) ∧
    ({ readyState.hall with mode := IssueMode.offline }).mode ≠ .online := by
  refine ⟨by decide, ⟨?_, by decide, ?_⟩, ⟨?_, by decide, by decide⟩, by decide, by decide, ?_, by decide⟩
  · intro g h
    obtain rfl : (4, 4) = g := by simpa [byClass] using h
    decide
  · intro d h
    obtain rfl : 21 = d := by simpa [byClass] using h
    decide
  · intro g h
    simp [byTool] at h
  · intro x hx u hu
    obtain rfl : x = 4095 := by simpa [readyState, state, hallOf, Table.list, Table.get] using hx
    obtain rfl : tool .ready = u := by simpa [readyState, state, hallOf, Table.get] using hu
    decide

/-- The refusals: numbers 0, 256 and 100,000,000, grades 5 to 4, a life of 1,000,001, a destination that is no machine;
an undefined class, an unknown tool; no ticket free; a tool in another state, in each mode. -/
theorem witness_IssueIsRefused :
    (¬(1 ≤ (0#32).toNat) ∧ ¬((256#32).toNat ≤ 255) ∧ ¬((100000000#32).toNat ≤ 99999999) ∧
      ¬((5#4).toNat ≤ (4#4).toNat) ∧ ¬((1000001#32).toNat ≤ 1000000) ∧ (hall0.client 4).role ≠ .machine) ∧
    ((state hall0).admits (hdr 4) .issue ∧ hall0.classes.get 255 = none ∧
      hall0.index.get byTool.target.toNat = none ∧ byTool.range = none ∧ byTool.dest = none) ∧
    ((fullPool (tool .ready)).admits (hdr 4) .issue ∧ (fullPool (tool .ready)).hall.classes.get 17 = some cls17 ∧
      (fullPool (tool .ready)).holds byTool.target 4095 (tool .ready) ∧
      (fullPool (tool .ready)).hall.tickets.lowestFree 128 = none) ∧
    (∀ x ∈ [RecordStatus.gauging .new, .held .worn, .promised], ∀ m ∈ [IssueMode.online, .draining, .offline],
      let s := state { hallOf (tool x) with mode := m }
      s.admits (hdr 4) .issue ∧ s.holds byTool.target 4095 (tool x) ∧ s.hall.tickets.lowestFree 128 = some 0 ∧
      s.hall.mode = m ∧ (tool x).status ≠ .ready) := by
  refine ⟨by decide, by decide, ⟨by decide +kernel, by decide +kernel, by decide +kernel, by decide +kernel⟩,
    by decide⟩

/-- Ticket 127 on the tool in drawer 3, in the queue of channel 3. -/
def cycleHall (channel : ChannelState) (status : TicketStatus) (r : RecordStatus) : Hall :=
  channelHall { idleChannel with state := channel, level := .open, filter := .open, queue := [127] } (tool r)
    (ticket status)

theorem witness_CancelFreesTicketAndReturnsTool :
    (∀ x ∈ [TicketStatus.waiting, .promised 4095, .released 4095, .opened 4095],
      let s := state (cycleHall .released x .promised)
      s.admits (hdr 4) .cancel ∧ s.admits (hdr 0) .cancel ∧ (127#32).toNat ≤ 127 ∧
      s.hall.tickets.get 127 = some (ticket x) ∧ (hdr 4).client.toNat = (ticket x).requester ∧
      (s.hall.client (hdr 0).client.toNat).role = .toolroom ∧ (ticket x).tag = 9 ∧
      s.hall.records.get 4095 = some (tool .promised) ∧ s.noTaker 17 ∧ 127 ∈ (s.hall.channel 3).queue ∧
      (∀ d, d ≠ 3 → 127 ∉ (s.hall.channel d).queue) ∧ (s.hall.channel 3).queue = [127] ∧ s.hall.mode ≠ .draining) ∧
    (let s := state { hallOf (tool .promised) with tickets := [(127, ticket (.promised 4095))], handover := [127] }
     s.admits (hdr 4) .cancel ∧ s.hall.tickets.get 127 = some (ticket (.promised 4095)) ∧
      s.hall.records.get 4095 = some (tool .promised) ∧ s.noTaker 17 ∧ ∀ c, 127 ∉ (s.hall.channel c).queue) := by
  decide

/-- Life 0 and 1; measurement ages 2 and 3 with validity 3. -/
theorem witness_ReturnJudgesTheTool :
    (∀ r ∈ [{ tool .out with life := 0 }, { tool .out with life := 1, measured := some (geo, { meas with age := 3 }) },
        { tool .out with life := 1, measured := some (geo, { meas with age := 2 }) }],
      (stateOf r).admits (hdr 4) .returnTool ∧ (stateOf r).holds 99999999 4095 r ∧ r.status = .out ∧
      (stateOf r).hall.classes.get 17 = some cls17 ∧ (stateOf r).noTaker 17) ∧
    cribLocation (.shelf 4095) = some (.shelf 4095) ∧
    (0 < cls17.policy.validity ∧ cls17.policy.validity ≤ 3) ∧
    ¬(0 < cls17.policy.validity ∧ cls17.policy.validity ≤ 2) := by decide

theorem witness_IssueModeDrainsAndReturns :
    (∀ m ∈ [IssueMode.online, .draining, .offline],
      let s := state { cycleHall .released (.released 4095) .promised with mode := m }
      s.admits (hdr 0) .setIssueMode ∧ s.hall.mode = m ∧
      ¬(∀ c, (s.hall.channel c).state = .idle ∨ (s.hall.channel c).state = .off ∨
        (s.hall.channel c).state = .forced)) ∧
    (∀ x ∈ [ChannelState.idle, .off, .forced],
      let s := state (cycleHall x (.promised 4095) .promised)
      s.admits (hdr 0) .setIssueMode ∧ s.hall.mode = .online ∧
      ∀ c, (s.hall.channel c).state = .idle ∨ (s.hall.channel c).state = .off ∨ (s.hall.channel c).state = .forced) ∧
    (let s := state { cycleHall .idle (.promised 4095) .promised with mode := .offline }
     s.hall.mode ≠ .online ∧ s.hall.waitQueues = [] ∧ (s.hall.channel 3).state = .idle ∧
      (s.hall.channel 3).queue = 127 :: [] ∧ s.hall.tickets.get 127 = some (ticket (.promised 4095)) ∧
      (s.hall.channel 0).queue = []) := by decide

/-- R88: with ticket 127 waiting for the READY tool, turning the mode on promises it and tells the requester. -/
theorem test_mode_on_serves_waiting_tickets :
    let s := state { offerHall .offline with chains := [(17, [4095])] }
    reply (.setIssueMode (hdr 0) true) s = some (.ok, [1]) ∧
    (notices (.setIssueMode (hdr 0) true) s).map (fun n => (n.kind, n.client)) = [(.promised, 4)] ∧
    ((after (.setIssueMode (hdr 0) true) s).map fun t => t.hall.waitQueues) = some [(17, [126])] := by decide

theorem no_ticket_waits (cls : Nat) : (cycleHall .idle (.promised 4095) .promised).waitQueues.list cls = [] := rfl

/-! Channels -/

/-- Channel 3 as given, alone. -/
def lone (c : Channel) : State := state { hall0 with channels := hall0.channels.set 3 c }

theorem witness_ChannelsAreConfiguredAndCleared :
    (∀ c ∈ [idleChannel, Channel.cold .shut, Channel.cold .open, { idleChannel with state := .released },
        { idleChannel with queue := [127] }, { idleChannel with state := .forced },
        { idleChannel with state := .forced, level := .open }, { idleChannel with state := .ajar, level := .open }],
      (lone c).admits (hdr 0) .configureChannel ∧ (lone c).admits (hdr 0) .clearChannel ∧
      (3#32).toNat = (3 : Fin 16).val ∧ (lone c).hall.channel 3 = c ∧ (lone c).hall.mode = .online ∧
      (lone c).hall.handover = []) ∧
    (idleChannel.enabled = true ∧ idleChannel.state = .idle ∧ idleChannel.queue = []) ∧
    (∀ c ∈ [ChannelState.opened, .idle],
      let s := state { (lone idleChannel).hall with
        mode := .draining, channels := (lone idleChannel).hall.channels.set 15 { idleChannel with state := c } }
      s.admits (hdr 0) .configureChannel ∧ s.hall.channel 3 = idleChannel ∧ s.hall.mode = .draining ∧
        ((∀ d, d = 3 ∨ (s.hall.channel d).state = .idle ∨ (s.hall.channel d).state = .off ∨
          (s.hall.channel d).state = .forced) ↔ c = .idle)) ∧
    ((Channel.cold .shut).enabled = false ∧ (Channel.cold .shut).level = .shut ∧
      (Channel.cold .open).level = .open) ∧
    (let s := state { cycleHall .forced (.promised 4095) .promised with
        channels := hall0.channels, handover := [127] }
     s.admits (hdr 0) .configureChannel ∧ (s.hall.channel 3).enabled = false ∧ (s.hall.channel 3).level = .shut ∧
      127 ∈ s.hall.handover ∧ s.hall.tickets.get 127 = some (ticket (.promised 4095)) ∧
      (ticket (.promised 4095)).status.slot = some 4095 ∧ s.hall.records.get 4095 = some (tool .promised) ∧
      (tool .promised).location = .drawer 3 63) ∧
    (let s := state (channelHall { idleChannel with state := .forced, queue := [127] } (tool .promised)
        (ticket (.promised 4095)))
     s.admits (hdr 0) .clearChannel ∧ (s.hall.channel 3).state = .forced ∧ (s.hall.channel 3).level = .shut ∧
      (s.hall.channel 3).queue = 127 :: [] ∧ s.hall.mode = .online ∧
      s.hall.tickets.get 127 = some (ticket (.promised 4095))) := by decide

/-- A ticket and its tool in the handover list. -/
def handoverHall : Hall :=
  { hallOf (tool .promised) with tickets := [(127, ticket (.promised 4095))], handover := [127] }

/-- Ticket numbers 127 and 128, and the ticket in and out of the handover list. -/
theorem witness_HandoverCompletesTheTicket :
    (state handoverHall).admits (hdr 4) .handover ∧ 128 ≤ (128#32).toNat ∧ (127#32).toNat ≤ 127 ∧
    (state hall0).hall.tickets.get (127#32).toNat = none ∧ (state hall0).admits (hdr 4) .handover ∧
    (state handoverHall).hall.tickets.get 127 = some (ticket (.promised 4095)) ∧
    (8#32) ≠ (ticket (.promised 4095)).tag ∧ 9#32 = (ticket (.promised 4095)).tag ∧
    (127 ∉ ({ handoverHall with handover := [] } : Hall).handover ∧ 127 ∈ handoverHall.handover ∧
      (ticket (.promised 4095)).status = .promised 4095 ∧ handoverHall.records.get 4095 = some (tool .promised) ∧
      handoverHall.classes.get 17 = some cls17) := by decide

theorem witness_OpenedStartsTakeOrForces :
    ((lone (Channel.cold .open)).hall.channel 3).filter = .open ∧
    (let s := state (channelHall { idleChannel with state := .released, queue := [127] } (tool .promised)
        (ticket (.released 4095)))
     (s.hall.channel 3).filter = .shut ∧ (s.hall.channel 3).state = .released ∧
      (s.hall.channel 3).queue = 127 :: [] ∧ s.hall.tickets.get 127 = some (ticket (.released 4095)) ∧
      s.hall.records.get 4095 = some (tool .promised)) ∧
    (((lone (Channel.cold .shut)).hall.channel 3).filter = .shut ∧
      ((lone (Channel.cold .shut)).hall.channel 3).state = .off) ∧
    ((lone { idleChannel with state := .forced }).hall.channel 3).state = .forced ∧
    (let s := state (channelHall idleChannel (tool .ready) (ticket .waiting))
     (s.hall.channel 3).filter = .shut ∧ (s.hall.channel 3).state = .idle ∧ s.hall.records.wf ∧ s.roomFor 1) := by
  decide

/-- The head ticket 127 and ticket 126 behind it, on the tools of slots 4095 and 0. -/
def queueHall (mode : IssueMode) : Hall :=
  { cycleHall .opened (.opened 4095) .promised with
    mode := mode
    records := [(0, { tool .promised with tool := 1 }), (4095, tool .promised)]
    tickets := [(126, ticket (.promised 0)), (127, ticket (.opened 4095))]
    channels := hall0.channels.set 3
      { idleChannel with state := .opened, level := .open, filter := .open, queue := [127, 126] } }

theorem witness_ClosedCompletesTheCycle :
    ((lone (Channel.cold .shut)).hall.channel 3).filter = .shut ∧
    (((lone (Channel.cold .open)).hall.channel 3).filter = .open ∧
      ((lone (Channel.cold .open)).hall.channel 3).state ≠ .opened ∧
      ((lone (Channel.cold .open)).hall.channel 3).state ≠ .ajar) ∧
    (∀ x ∈ [ChannelState.opened, .ajar],
      let s := state (cycleHall x (.opened 4095) .promised)
      (s.hall.channel 3).filter = .open ∧ (s.hall.channel 3).state = x ∧ (s.hall.channel 3).queue = 127 :: [] ∧
      127 ∉ ([] : List Nat) ∧ s.hall.tickets.get 127 = some (ticket (.opened 4095)) ∧
      s.hall.records.get 4095 = some (tool .promised) ∧ s.hall.classes.get 17 = some cls17 ∧ s.roomFor 1 ∧
      s.hall.mode ≠ .draining) ∧
    (∀ m ∈ [IssueMode.online, .draining, .offline],
      let s := state (queueHall m)
      (s.hall.channel 3).filter = .open ∧ (s.hall.channel 3).state = .opened ∧
      (s.hall.channel 3).queue = 127 :: [126] ∧ 127 ∉ [126] ∧
      s.hall.tickets.get 127 = some (ticket (.opened 4095)) ∧ s.hall.records.get 4095 = some (tool .promised) ∧
      s.hall.classes.get 17 = some cls17 ∧ s.roomFor 1 ∧ s.hall.mode = m ∧
      (∀ d, d ≠ 3 → (s.hall.channel d).state = .idle ∨ (s.hall.channel d).state = .off ∨
        (s.hall.channel d).state = .forced) ∧
      s.hall.tickets.get 126 = some (ticket (.promised 0))) := by decide

theorem witness_WindowExpiriesEndOrMarkTheCycle :
    ((lone idleChannel).hall.channel 3).state ≠ .released ∧ ((lone idleChannel).hall.channel 3).state ≠ .opened ∧
    (let s := state (cycleHall .released (.released 4095) .promised)
     (s.hall.channel 3).state = .released ∧ (s.hall.channel 3).queue = [127] ∧
      s.hall.tickets.get 127 = some (ticket (.released 4095)) ∧ s.hall.records.get 4095 = some (tool .promised) ∧
      s.noTaker 17 ∧ s.hall.mode ≠ .draining ∧ s.roomFor 1) ∧
    (let s := state (cycleHall .opened (.opened 4095) .promised)
     (s.hall.channel 3).state = .opened ∧ (s.hall.channel 3).queue = 127 :: [] ∧
      s.hall.tickets.get 127 = some (ticket (.opened 4095)) ∧ s.hall.records.get 4095 = some (tool .promised) ∧
      s.roomFor 1) := by decide

/-! Machines, programs, life -/

/-- The tool mounted in pocket 60 of client 21, by binding entry 1023. -/
def mounted (isProtected : Bool) (r : Record) : Hall :=
  { hallOf r with bindings := [(1023, ⟨21, 60, 4095, isProtected⟩)] }

theorem witness_MountBindsAndDismountReleases :
    ((∀ r ∈ [tool .out, { tool .out with dest := some 21 }],
        (stateOf r).admits (hdr 21) .mount ∧ (stateOf r).holds 99999999 4095 r ∧ r.status = .out ∧
        (stateOf r).hall.client (hdr 21).client.toNat = .machine 3 60 80 0 ∧ 1 ≤ (1#32).toNat ∧ (60#32).toNat ≤ 60 ∧
        findBinding 21 60 (stateOf r).hall.bindings = none ∧
        (stateOf r).hall.bindings.lowestFree 1024 = some 0 ∧ r.measured = some (geo, meas) ∧
        (stateOf r).hall.programs.get 3 = some ⟨steps3, bytes3, 10⟩) ∧
      (rendered steps3 ⟨0, 60, geo.length, geo.radius, geo.grade, 120, 99999999⟩).isSome = true ∧
      (rendered [.load .length .inch 5 6, .endStep] ⟨0, 60, geo.length, geo.radius, 4, 120, 1⟩).isSome = false) ∧
    (∀ b ∈ [false, true],
      let s := state (mounted b (tool .mounted))
      1 ≤ (60#32).toNat ∧ (60#32).toNat ≤ 240 ∧
      findBinding (hdr 21).client.toNat (60#32).toNat s.hall.bindings = some (1023, ⟨21, 60, 4095, b⟩) ∧
      s.hall.records.get 4095 = some (tool .mounted) ∧ s.admits (hdr 21) .dismount ∧ s.admits (hdr 21) .protect ∧
      s.admits (hdr 21) .unprotect) :=
  ⟨⟨by decide, by decide, by decide⟩, by decide⟩

/-- Length deltas: −20 stays in grade 4, 166 and 167 lie at the end of class 17's grades, 2,670,499 and 2,670,500. -/
theorem witness_AdjustTrimsTheGeometry :
    (∀ x ∈ [RecordStatus.ready, .promised, .out, .mounted],
      (stateOf (tool x)).admits (hdr 0) .adjust ∧ (stateOf (tool x)).holds 99999999 4095 (tool x) ∧
      (tool x).measured = some (geo, meas) ∧ (stateOf (tool x)).hall.classes.get 17 = some cls17 ∧
      (stateOf (tool x)).noTaker 17) ∧
    (-100000 ≤ (-100000#32).toInt ∧ (100000#32).toInt ≤ 100000) ∧
    (let verdict := fun dl : Int => classify cls17.shape ⟨2670333 + dl, 132718, 70,
        decide (2670333 + dl < -9999999 ∨ 9999999 < 2670333 + dl ∨ (132718 : Int) < -9999999 ∨
          9999999 < (132718 : Int))⟩
     let index := fun dl : Int => (2670333 + dl - 2670000 - -500 : Int).fdiv 200
     verdict (-20) = none ∧ verdict 166 = none ∧ verdict 167 = some .length ∧ index (-20) = 4 ∧ index 166 = 4 ∧
      (0 ≤ index 166 ∧ index 166 ≤ 15) ∧ (index 166).toNat = geo.grade) ∧
    (∀ b ∈ [false, true],
      let s := state (mounted b (tool .mounted))
      s.admits (hdr 0) .adjust ∧ s.holds 99999999 4095 (tool .mounted) ∧
      bindingOfSlot 4095 s.hall.bindings = some (1023, ⟨21, 60, 4095, b⟩) ∧
      s.hall.client 21 = .machine 3 60 80 0 ∧ s.hall.programs.get 3 = some ⟨steps3, bytes3, 10⟩) ∧
    (rendered steps3 ⟨0, 60, 2670313, 132718, 4, 120, 99999999⟩).isSome = true :=
  ⟨by decide, by decide, by decide, by decide, by decide⟩

theorem witness_ResendHandoffSendsTheBlock :
    (∀ b ∈ [false, true],
      let s := state (mounted b (tool .mounted))
      s.admits (hdr 21) .resendHandoff ∧ s.admits (hdr 0) .resendHandoff ∧ 1 ≤ (60#32).toNat ∧
      findBinding 21 (60#32).toNat s.hall.bindings = some (1023, ⟨21, 60, 4095, b⟩) ∧
      s.hall.records.get 4095 = some (tool .mounted) ∧ (tool .mounted).measured = some (geo, meas) ∧
      s.hall.client 21 = .machine 3 60 80 0 ∧ s.hall.programs.get 3 = some ⟨steps3, bytes3, 10⟩ ∧
      (s.hall.client (hdr 21).client.toNat).role = .machine ∧ (hdr 21).client.toNat = 21 ∧
      (s.hall.client (hdr 0).client.toNat).role = .toolroom ∧ (21#32).toNat = 21) ∧
    (rendered steps3 ⟨0, 60, geo.length, geo.radius, geo.grade, 120, 99999999⟩).isSome = true := by decide

/-- Program 3 passes; no steps at all fail with END, a cut step with KIND; program 15 is the last. -/
theorem witness_ProgramsAreStoredAndTested :
    ((state hall0).admits (hdr 0) .storeProgram ∧ (15#8).toNat = (15 : Fin 16).val ∧ bytes3.length ≤ 244 ∧
      kindBytesOk bytes3 = true ∧ kindBytesOk [] = true ∧ kindBytesOk [2, 0x11] = true) ∧
    (readyState.admits (hdr 0) .renderTest ∧ readyState.holds 99999999 4095 (tool .ready) ∧
      (3#32).toNat = (3 : Fin 16).val ∧ -1000000 ≤ (-1000000#32).toInt ∧ (1000000#32).toInt ≤ 1000000 ∧
      readyState.hall.programs.get 3 = some ⟨steps3, bytes3, 10⟩) ∧
    (rendered steps3 ⟨0, 0, geo.length, geo.radius, geo.grade, 120, 99999999⟩).isSome = true := by decide

theorem witness_programs_that_pass_and_fail :
    validate bytes3 = .ok (steps3, 10) ∧ validate [] = .error (0, .endStep) ∧
    validate [2, 0x11] = .error (0, .kind) ∧
    render [.load .length .inch 5 6, .endStep] ⟨0, 0, 2670333, 0, 0, 0, 1⟩ = .error ⟨0, .length, 1051312, 6⟩ :=
  ⟨rfl, rfl, rfl, rfl⟩

/-- Program 3 replaced by one whose width is too small for the length of every tool here. -/
def narrowState (r : Record) : State :=
  state { hallOf r with programs := [(3, ⟨[.load .length .inch 5 6, .endStep], [], 0⟩)] }

/-- The clauses of MOUNT and of RENDER-TEST whose render fails its significance check. -/
theorem witness_renders_that_fail :
    ((narrowState (tool .out)).admits (hdr 21) .mount ∧ (narrowState (tool .out)).holds 99999999 4095 (tool .out) ∧
      findBinding 21 60 (narrowState (tool .out)).hall.bindings = none ∧
      (narrowState (tool .out)).hall.programs.get 3 = some ⟨[.load .length .inch 5 6, .endStep], [], 0⟩) ∧
    (narrowState (tool .out)).admits (hdr 0) .renderTest ∧
    (∀ pocket ∈ [0, 60], rendered [.load .length .inch 5 6, .endStep]
      ⟨0, pocket, geo.length, geo.radius, geo.grade, 120, 99999999⟩ = none) := by decide

/-- A program that passes, and a render of it. -/
theorem witness_ValidatedProgramsRenderWithinTheBlock :
    validate bytes3 = .ok (steps3, 10) ∧ ∃ block, render steps3 ⟨0, 0, 2670333, 0, 0, 0, 1⟩ = .ok block :=
  ⟨rfl, _, rfl⟩

/-- The hall with the tool mounted at a machine of severity 64 (one unit of life for each unit of use), its class with
auto-replace as given. -/
def usageState (r : Record) (auto : Bool) (tickets : Table Ticket) : State :=
  state { mounted false r with
    clients := [(0, .toolroom), (21, .machine 3 60 64 0)]
    classes := [(17, { cls17 with policy := { cls17.policy with autoReplace := auto } })]
    tickets := tickets }

/-- Life 120, warn level 100: amount 19 leaves 101, amount 20 the warn level, 119 one, 120 none; a full ticket pool. -/
theorem witness_UsageChargesAndEndsLife :
    (∀ r ∈ [tool .mounted, { tool .mounted with life := 0 }], ∀ auto ∈ [false, true],
      let s := usageState r auto []
      s.admits (hdr 21) .usage ∧ 1 ≤ (60#32).toNat ∧ (60#32).toNat ≤ 240 ∧ (65535#32).toNat ≤ 65535 ∧
      s.hall.client (hdr 21).client.toNat = .machine 3 60 64 0 ∧
      findBinding (hdr 21).client.toNat (60#32).toNat s.hall.bindings = some (1023, ⟨21, 60, 4095, false⟩) ∧
      s.hall.records.get 4095 = some r ∧
      s.hall.classes.get 17 = some { cls17 with policy := { cls17.policy with autoReplace := auto } } ∧
      s.hall.tickets.lowestFree 128 = some 0 ∧ s.hall.chains.list 17 = []) ∧
    (let consumed := fun amount : Nat => (amount * 64 + 63) / 64
     (consumed 19 < 120 ∧ ¬(120 - consumed 19 ≤ 100)) ∧ (consumed 20 < 120 ∧ 120 - consumed 20 ≤ 100) ∧
      (consumed 119 < 120 ∧ 120 - consumed 119 ≤ 100) ∧ (0 < 120 ∧ 120 ≤ consumed 120)) := by decide

/-- A READY tool of the class stands in the chain when the life ends, and meets the replacement ticket; LOW-STOCK follows
LIFE-END (9.5). -/
theorem witness_UsagePromisesReplacement :
    let sister := { tool .ready with tool := 1, life := 1 }
    let s := { usageState (tool .mounted) true [] with hall := { (usageState (tool .mounted) true []).hall with
      records := [(0, sister), (4095, tool .mounted)], chains := [(17, [0])] } }
    s.admits (hdr 21) .usage ∧ s.hall.mode = .online ∧ s.hall.tickets.lowestFree 128 = some 0 ∧
    s.hall.chains.list 17 = [] ++ 0 :: [] ∧ s.hall.records.get 0 = some sister ∧
    (sister.grade ≤ cls17.shape.topGrade ∧ 1 ≤ sister.life) ∧
    (notices (.usage (hdr 21) 60 120) s).map (fun n => (n.kind, n.body.drop 5)) =
      [(.lifeEnd, [1, 0, 1, 0, 0x4000033f, 4, 1]), (.lowStock, [])] := by decide

theorem witness_UsageFindsNoTicket :
    (usageState (tool .mounted) true ((List.range 128).map fun n => (n, ticket .waiting))).hall.tickets.lowestFree 128 =
      none := by decide +kernel

/-- Ages 2 and 3 before the sweep at validity 3, out ages 0 and 1 at out limit 2, ticket ages at wait limit 30 and
promotion age 10. -/
theorem witness_SweepAgesToolsAndTickets :
    (let s := state { channelHall idleChannel (tool .ready) (ticket .waiting) with waitQueues := [(17, [127])] }
     TablesLaw s.hall ∧ (s.hall.waitQueues.flatMap Prod.snd).Nodup ∧ s.hall.records.get 4095 = some (tool .ready) ∧
      s.hall.classes.get 17 = some cls17 ∧ 127 ∈ s.hall.waitQueues.flatMap Prod.snd ∧
      126 ∉ s.hall.waitQueues.flatMap Prod.snd ∧ s.hall.tickets.get 127 = some (ticket .waiting) ∧
      s.hall.records.get 0 = none) ∧
    ((0 < cls17.policy.validity ∧ cls17.policy.validity ≤ 2 + 1) ∧ ¬(cls17.policy.validity ≤ 1 + 1)) ∧
    ((0 < cls17.policy.outLimit ∧ cls17.policy.outLimit ≤ 1 + 1) ∧ ¬(cls17.policy.outLimit ≤ 0 + 1)) ∧
    ((0 < cls17.policy.waitLimit ∧ cls17.policy.waitLimit ≤ 29 + 1) ∧ ¬(cls17.policy.waitLimit ≤ 28 + 1)) ∧
    ((ticket .waiting).band = .plan ∧ 0 < cls17.policy.promotionAge ∧ cls17.policy.promotionAge ≤ 9 + 1 ∧
      ¬(cls17.policy.promotionAge ≤ 8 + 1)) ∧
    (HallLaw (state lawfulHall).hall ∧ (state lawfulHall).roomFor 0) := by
  refine ⟨⟨⟨by decide, by decide, by decide, by decide, by decide, by decide, by decide, by decide, by decide,
    by decide, by decide, by decide⟩,
    by decide, by decide, by decide, by decide, by decide, by decide, by decide⟩, by decide, by decide, by decide,
    by decide, lawfulHall_meets_its_law, by decide⟩

/-- In that hall the sweep holds tool 1, which makes class 17 low, finds tool 7 overdue, ends ticket 0 and promotes
ticket 3 behind ticket 4. -/
theorem test_sweep_of_a_lawful_hall :
    (notices .sweep (state lawfulHall)).map (fun n => (n.kind, n.body)) =
      [(.lowStock, [17, 5, 6]), (.overdue, [7, 4095, 17, 0, 2, 2]), (.expired, [0, 7, 17, 2, 30])] ∧
    ((after .sweep (state lawfulHall)).map fun t => (t.hall.chains, t.hall.waitQueues, t.hall.flags)) =
      some ([(17, [1])], [(17, [4, 3])], 0x58) := by decide +kernel

end Sys2Proof.Tests
end

/-! ## A law of the units is kept by every step when every unit's operation keeps it -/

namespace Sys2Proof.Machine

/-- What a law of the units must withstand to be kept by every step: each request, each event, each start, a second of
the clock, and the flag a dropped notice sets. -/
structure KeptByUnits (P : Hall → Prop) : Prop where
  overrun : ∀ s, P s → P (setFlag .overrun s)
  request : ∀ i s, P s → P (handle i s).hall
  opened : ∀ c s, P s → P (openedEvent c s).1
  closed : ∀ c s, P s → P (closedEvent c s).1
  openExpiry : ∀ c s, P s → P (openExpiry c s).1
  takeExpiry : ∀ c s, P s → P (takeExpiry c s).1
  gaugeExpiry : ∀ n s, P s → P (gaugeExpiry n s).1
  sweep : ∀ s, P s → P (sweepEvent s).1
  second : ∀ s, P s → P (countSecond s)
  warm : ∀ cause s, P s → P (warmStart cause s)
  filters : ∀ levels s, P s → P (setFilters levels s)
  cold : ∀ levels s, P s → P (coldStart levels s)

namespace KeptByUnits

variable {P : Hall → Prop}

theorem placeNotices (k : KeptByUnits P) (notices : List Notice) (s : State) (h : P s.hall) :
    P (placeNotices notices s).hall := by
  obtain ⟨-, -, -, -, -, -, same | flagged⟩ := placeNotices_frame notices s
  · rwa [same]
  · rw [flagged]; exact k.overrun _ h

theorem placeAnswer (k : KeptByUnits P) (a : Answer) (s : State) (h : P s.hall) : P (placeAnswer a s).hall :=
  k.placeNotices _ _ h

theorem answerRequest (k : KeptByUnits P) (kind : Kind) (hd : Header) (i : Instr) (s : Hall) (h : P s) :
    P (answerRequest kind hd i s).hall := by
  unfold Machine.answerRequest
  split
  · exact h
  split
  · exact h
  split
  · exact h
  · exact k.request i s h

theorem answerWords (k : KeptByUnits P) (w0 w1 : Word) (body : List Word) (s : Hall) (h : P s) :
    P (answerWords w0 w1 body s).hall := by
  unfold Machine.answerWords
  split
  · exact h
  split
  · exact h
  split
  · exact h
  split
  · exact h
  · exact k.answerRequest _ _ _ s h

theorem serveRequest (k : KeptByUnits P) (kind : Kind) (hd : Header) (i : Instr) (s : State) (h : P s.hall) :
    P (serveRequest kind hd i s).hall :=
  k.placeAnswer _ _ (k.answerRequest kind hd i s.hall h)

theorem serveWords (k : KeptByUnits P) (words : List Word) (s : State) (h : P s.hall) :
    P (serveWords words s).hall := by
  unfold Machine.serveWords
  split
  · exact k.placeAnswer _ _ (k.answerWords _ _ _ s.hall h)
  · exact h

theorem takeWords (k : KeptByUnits P) (words : List Word) (s : State) (h : P s.hall) : P (takeWords words s).hall := by
  unfold Machine.takeWords
  split
  · exact k.answerWords _ _ _ s.hall h
  · exact h

theorem portTake (k : KeptByUnits P) (s : State) (h : P s.hall) : P (portTake s).hall := by
  obtain ⟨-, same⟩ | ⟨m, rest, -, -, -, taken⟩ := portTake_cases s
  · rwa [same]
  · rw [taken]; exact k.takeWords m _ h

theorem writeWord (k : KeptByUnits P) (s : State) (w : Word) (h : P s.hall) : P (writeWord s w).hall := by
  unfold Machine.writeWord
  split
  · exact k.portTake _ h
  · exact h

theorem writeWords (k : KeptByUnits P) (words : List Word) (s : State) (h : P s.hall) :
    P (writeWords words s).hall := by
  induction words generalizing s with
  | nil => exact h
  | cons w rest ih => exact ih _ (k.writeWord s w h)

theorem present (k : KeptByUnits P) (i : Instr) (s : State) (h : P s.hall) : P (present i s).hall := by
  unfold Machine.present
  split
  · split
    · exact k.serveRequest _ _ i s h
    · exact k.writeWords _ s h
  · exact h

theorem presentWords (k : KeptByUnits P) (words : List Word) (s : State) (h : P s.hall) :
    P (presentWords words s).hall := by
  unfold Machine.presentWords
  split
  · exact k.serveWords words s h
  · exact k.writeWords words s h

theorem readMessage (k : KeptByUnits P) (s : State) (h : P s.hall) : P (readMessage s).hall := by
  unfold Machine.readMessage
  split
  · exact h
  dsimp only
  split
  · exact h
  · exact k.portTake _ h

theorem takeEvent (k : KeptByUnits P) {event : Hall → Hall × List Notice} (he : ∀ s, P s → P (event s).1) (s : State)
    (h : P s.hall) : P (takeEvent event s).hall :=
  k.placeNotices _ _ (he _ h)

theorem due (k : KeptByUnits P) (d : Due) (s : Hall) (h : P s) : P (d.event s).1 := by
  cases d with
  | gauge n => exact k.gaugeExpiry n s h
  | openWindow c => exact k.openExpiry c s h
  | takeWindow c => exact k.takeExpiry c s h
  | sweep => exact k.sweep s h

theorem takeDue (k : KeptByUnits P) (due : List Due) (s : State) (h : P s.hall) :
    P (due.foldl (fun s d => Machine.takeEvent d.event s) s).hall := by
  induction due generalizing s with
  | nil => exact h
  | cons d rest ih => exact ih _ (k.takeEvent (k.due d) s h)

theorem secondPasses (k : KeptByUnits P) (s : State) (h : P s.hall) : P (secondPasses s).hall :=
  k.takeDue _ _ (k.second _ h)

theorem startByReset (k : KeptByUnits P) (retain : Bool) (inputs : BitVec 16) (s : State) (h : P s.hall) :
    P (startByReset retain inputs s).hall := by
  cases retain with
  | false => exact k.cold _ _ h
  | true => exact k.warm _ _ (k.filters _ _ h)

theorem startByRestart (k : KeptByUnits P) (s : State) (h : P s.hall) : P (startByRestart s).hall := by
  unfold Machine.startByRestart
  split
  · exact k.warm _ _ h
  · exact h

theorem idle (k : KeptByUnits P) (s : State) (h : P s.hall) : P (idle s).hall := by
  unfold Machine.idle
  rw [drivePins_hall]
  split
  · exact k.startByRestart s h
  split
  · exact k.portTake _ (k.placeAnswer _ _ h)
  · exact k.secondPasses s h

/-- A request command presents its message, or is refused. -/
theorem exec_request {i : Instr} {kind : Kind} {s t : State} (hk : i.kind = some kind) (he : Machine.exec i s = .next t) :
    t.hall = (Machine.present i s).hall := by
  cases i
  case storeProgram hd program bytes =>
    change execStoreProgram hd program bytes s = .next t at he
    unfold execStoreProgram at he
    split at he
    · cases he; rfl
    · cases he
  all_goals first
    | (cases hk; done)
    | (cases he; rfl)

theorem exec (k : KeptByUnits P) {i : Instr} {s t : State} (h : P s.hall) (he : Machine.exec i s = .next t) : P t.hall := by
  cases hk : i.kind with
  | some kind => rw [exec_request hk he]; exact k.present i s h
  | none =>
    cases i
    case malformedMessage words =>
      change execMalformedMessage words s = .next t at he
      unfold execMalformedMessage at he
      split at he
      · cases he; exact k.presentWords words s h
      · cases he
    case messageRead => cases he; exact k.readMessage s h
    case opened c => cases he; exact k.takeEvent (k.opened c) s h
    case closed c => cases he; exact k.takeEvent (k.closed c) s h
    case openWindowExpiry c => cases he; exact k.takeEvent (k.openExpiry c) s h
    case takeWindowExpiry c => cases he; exact k.takeEvent (k.takeExpiry c) s h
    case gaugeWindowExpiry n => cases he; exact k.takeEvent (k.gaugeExpiry n) s h
    case sweep => cases he; exact k.takeEvent k.sweep s h
    case reset retain inputs => cases he; exact k.startByReset retain inputs s h
    case pendingStart => cases he; exact k.startByRestart s h
    case messageWordWritten w => cases he; exact k.writeWord s w h
    all_goals cases hk

/-- A law that every unit's operation keeps is kept by every step. -/
theorem step (k : KeptByUnits P) {s t : State} (h : P s.hall) (ht : Machine.step s = .next t) : P t.hall := by
  unfold Machine.step at ht
  split at ht
  · cases ht; exact k.idle s h
  · rename_i c rest _
    have hall : P { s with pending := rest }.hall := h
    exact k.exec (i := c) hall ht

end KeptByUnits

end Sys2Proof.Machine

/-! ## What an operation of the units can do

`Effect s t` lists, one constructor for each kind of change, how a request, an event or a start can take the units from
`s` to `t`, with what the operation has checked. The laws that every step keeps are proved by induction over it. -/

namespace Sys2Proof.Machine

/-! ### What other tables see of a record, a station and a channel -/

/-- What a chain sees of a record: class, life and tool number of a READY one. -/
def Record.readyKey (r : Record) : Option (Nat × Nat × Nat) :=
  if r.status = .ready then some (r.cls, r.life, r.tool) else none

/-- What a ticket sees of a record: class and location of a PROMISED one. -/
def Record.promisedView (r : Record) : Option (Nat × Location) :=
  if r.status = .promised then some (r.cls, r.location) else none

/-- What a binding sees of a record: the location of a MOUNTED one. -/
def Record.mountedView (r : Record) : Option Location := if r.status = .mounted then some r.location else none

/-- A record without life is OUT, MOUNTED or HELD WORN. -/
def Record.LifeOk (r : Record) : Prop :=
  r.life = 0 → r.status = .out ∨ r.status = .mounted ∨ r.status = .held .worn

/-- A record is rewritten in nothing that another table sees. -/
structure Record.Alike (r r' : Record) : Prop where
  tool : r'.tool = r.tool
  cls : r'.cls = r.cls
  ready : r'.readyKey = r.readyKey
  promised : r'.promisedView = r.promisedView
  mounted : r'.mountedView = r.mountedView
  gauging : r'.status.isGauging = r.status.isGauging
  usable : r'.usable = r.usable
  life : r.LifeOk → r'.LifeOk

/-- A rewritten record that keeps its number, class, state, life and location. -/
theorem Record.Alike.of_eq {r r' : Record} (tool : r'.tool = r.tool) (cls : r'.cls = r.cls)
    (status : r'.status = r.status) (life : r'.life = r.life) (location : r'.location = r.location) : r.Alike r' := by
  constructor <;>
    simp only [Record.readyKey, Record.promisedView, Record.mountedView, Record.usable, Record.LifeOk, tool, cls, status,
      life, location]
  exact id

/-- A record that no other unit refers to, before and after: NEW or HELD. -/
theorem Record.Alike.of_loose {r r' : Record} (tool : r'.tool = r.tool) (cls : r'.cls = r.cls)
    (before : r.status = .new ∨ ∃ h, r.status = .held h) (after : r'.status = .new ∨ ∃ h, r'.status = .held h)
    (life : r.LifeOk → r'.LifeOk) : r.Alike r' := by
  have off : ∀ x : Record, (x.status = .new ∨ ∃ h, x.status = .held h) →
      x.readyKey = none ∧ x.promisedView = none ∧ x.mountedView = none ∧ x.status.isGauging = false ∧
        x.usable = false := by
    rintro x (h | ⟨reason, h⟩) <;>
      simp [Record.readyKey, Record.promisedView, Record.mountedView, Record.usable, RecordStatus.isGauging, h]
  obtain ⟨a1, a2, a3, a4, a5⟩ := off r before
  obtain ⟨b1, b2, b3, b4, b5⟩ := off r' after
  exact ⟨tool, cls, by rw [a1, b1], by rw [a2, b2], by rw [a3, b3], by rw [a4, b4], by rw [a5, b5], life⟩

/-- A station is rewritten in its settings, its points and timer, or a half that is staged. -/
structure Station.Alike (x y : Station) : Prop where
  state : y.state = x.state
  kind : y.session.map Session.kind = x.session.map Session.kind
  active : y.active = x.active
  pending : y.pending = x.pending
  geometry : x.stagedGeometry.isSome = true → y.stagedGeometry.isSome = true
  correction : x.stagedCorrection.isSome = true → y.stagedCorrection.isSome = true

theorem Station.Alike.refl (x : Station) : x.Alike x := ⟨rfl, rfl, rfl, rfl, id, id⟩

/-- A channel goes to a state with the same demand on its head: IDLE and FORCED have none, OPENED and AJAR an opened
one. -/
def ChannelState.sameHead (x y : ChannelState) : Prop :=
  y = x ∨ (x = .forced ∧ y = .idle) ∨ (x = .idle ∧ y = .forced) ∨ (x = .opened ∧ y = .ajar)

/-- A channel keeps its queue and its choice. -/
structure Channel.Alike (x y : Channel) : Prop where
  queue : y.queue = x.queue
  enabled : y.enabled = x.enabled
  state : x.state.sameHead y.state

theorem Channel.Alike.refl (x : Channel) : x.Alike x := ⟨rfl, rfl, .inl rfl⟩

/-! ### The effects -/

/-- What an operation of the units can do. -/
inductive Effect : Hall → Hall → Prop
  /-- One change after another. -/
  | trans {s t u : Hall} : Effect s t → Effect t u → Effect s u
  /-- The mode, the sweep timer, the flags and enables, the start record and the model's counter. -/
  | config (s : Hall) (mode : IssueMode) (sweep : SweepTimer) (flags enables : BitVec 7) (startKind : StartKind)
      (startCause : StartCause) (freeIndex : Nat) :
      Effect s { s with mode, sweep, flags, enables, startKind, startCause, freeIndex }
  /-- A program is stored. -/
  | program (s : Hall) (p : Fin 16) (x : Program) : Effect s { s with programs := s.programs.put p.val x }
  /-- A client table entry is written (R192). -/
  | client (s : Hall) (n : Nat) (e : ClientEntry) (range : 1 ≤ n ∧ n ≤ 63)
      (station : ∀ x, e.station = some x → stationTaken n x s = false)
      (work : (e.role = (s.client n).role ∧ e.station = (s.client n).station) ∨ clientHasWork n s = false) :
      Effect s (s.putClient n e)
  /-- Stations and channels are rewritten in what no other table sees. -/
  | banks (s : Hall) (stations : Vector Station 4) (channels : Vector Channel 16)
      (hs : ∀ n, (s.stations.get n).Alike (stations.get n)) (hc : ∀ c, (s.channels.get c).Alike (channels.get c)) :
      Effect s { s with stations, channels }
  /-- ENROL. -/
  | enrol (s : Hall) (slot tool cls : Nat) (life : Option Word) (location : Location) (c : ClassEntry)
      (hc : s.classes.get cls = some c) (free : s.index.get tool = none)
      (hs : s.records.lowestFree Config.recordSlots = some slot) :
      Effect s { s with
        records := s.records.put slot (newRecord tool cls (initialLife c.shape.fullLife life) location)
        index := s.index.put tool slot }
  /-- A NEW or HELD record is retired. -/
  | free (s : Hall) (slot : Nat) (r : Record) (hr : s.records.get slot = some r)
      (status : r.status = .new ∨ ∃ reason, r.status = .held reason) : Effect s (freeRecord slot r.tool s)
  /-- A READY record is retired. -/
  | freeReady (s : Hall) (slot : Nat) (r : Record) (hr : s.records.get slot = some r) (status : r.status = .ready) :
      Effect s (freeRecord slot r.tool (usableFall r.cls (leaveChain slot r.cls s)).1)
  /-- A record is rewritten in what no other table sees. -/
  | record (s : Hall) (slot : Nat) (r r' : Record) (hr : s.records.get slot = some r) (alike : r.Alike r') :
      Effect s (s.putRecord slot r')
  /-- A READY record is held. -/
  | hold (s : Hall) (slot : Nat) (r r' : Record) (reason : HoldReason) (hr : s.records.get slot = some r)
      (status : r.status = .ready) (tool : r'.tool = r.tool) (cls : r'.cls = r.cls) (life : r'.life = r.life) :
      Effect s (holdReady slot r' reason s).1
  /-- An OUT record with life is held. -/
  | holdOut (s : Hall) (slot : Nat) (r r' : Record) (reason : HoldReason) (hr : s.records.get slot = some r)
      (status : r.status = .out) (alive : 0 < r.life) (tool : r'.tool = r.tool) (cls : r'.cls = r.cls)
      (life : r'.life = r.life) :
      Effect s (usableFall r'.cls (s.putRecord slot { r' with status := .held reason })).1
  /-- A HELD or OUT record with life enters READY. -/
  | ready (s : Hall) (slot : Nat) (r r' : Record) (hr : s.records.get slot = some r)
      (status : r.status = .out ∨ ∃ reason, r.status = .held reason) (alive : 0 < r.life) (tool : r'.tool = r.tool)
      (cls : r'.cls = r.cls) (life : r'.life = r.life) :
      Effect s (enterReady slot r' (decide (r.status = .out)) s).hall
  /-- A READY record is offered. -/
  | offer (s : Hall) (slot : Nat) (r : Record) (hr : s.records.get slot = some r) (status : r.status = .ready) :
      Effect s (offer slot s).hall
  /-- Every chain is offered (R88). -/
  | offers (s : Hall) : Effect s (offerEach (s.chains.flatMap Prod.snd) s).1
  /-- A class is defined. -/
  | defineClass (s : Hall) (cls : Nat) (c : ClassEntry) (free : s.classes.get cls = none)
      (life : 1 ≤ c.shape.fullLife) (usable : c.usable = 0) (low : c.low = decide (c.usable < c.policy.minStock)) :
      Effect s (s.putClass cls c)
  /-- A class is defined anew. -/
  | redefineClass (s : Hall) (cls : Nat) (c c' : ClassEntry) (hc : s.classes.get cls = some c)
      (life : 1 ≤ c'.shape.fullLife) (usable : c'.usable = c.usable)
      (low : c'.low = decide (c'.usable < c'.policy.minStock)) : Effect s (s.putClass cls c')
  /-- The counters of a class change. -/
  | counters (s : Hall) (cls : Nat) (c : ClassEntry) (issues rejects : Counter) (hc : s.classes.get cls = some c) :
      Effect s (s.putClass cls { c with issues, rejects })
  /-- A class that is not in use is deleted. -/
  | deleteClass (s : Hall) (cls : Nat) (idle : inUse cls s = false) : Effect s { s with classes := s.classes.del cls }
  /-- The rule that follows a calibration write (R51). -/
  | calibrate (s : Hall) (n : Fin 4) : Effect s (s.setStation n (s.station n).afterWrite)
  /-- GAUGE-BEGIN for the master. -/
  | beginMaster (s : Hall) (n : Fin 4) (entry : EntryState) (state : (s.station n).state = entry.state) :
      Effect s (s.setStation n ((s.station n).openSession entry .master))
  /-- GAUGE-BEGIN for a tool that is not READY. -/
  | beginLoose (s : Hall) (n : Fin 4) (slot : Nat) (r : Record) (resume : Resume) (state : (s.station n).state = .ready)
      (hr : s.records.get slot = some r) (loose : r.status = .new ∨ ∃ reason, r.status = .held reason)
      (worn : r.status ≠ .held .worn) :
      Effect s ((s.putRecord slot { r with status := .gauging resume }).setStation n
        ((s.station n).openSession .ready (.tool slot)))
  /-- GAUGE-BEGIN for a READY tool. -/
  | beginReady (s : Hall) (n : Fin 4) (slot : Nat) (r : Record) (state : (s.station n).state = .ready)
      (hr : s.records.get slot = some r) (ready : r.status = .ready) :
      Effect s (((usableFall r.cls (leaveChain slot r.cls s)).1.putRecord slot
        { r with status := .gauging .ready }).setStation n ((s.station n).openSession .ready (.tool slot)))
  /-- The end of a session without a tool. -/
  | closeMaster (s : Hall) (n : Fin 4) (x : Session) (state : StationState) (hx : (s.station n).session = some x)
      (kind : ∀ slot, x.kind = .tool slot → ∀ r, s.records.get slot = some r → r.status.isGauging = false)
      (hs : (s.station n).state.isGauging = true → state = .ready ∨ state = .drift) :
      Effect s (s.setStation n ((s.station n).close state))
  /-- The end of a tool session that leaves the record NEW or HELD. -/
  | closeLoose (s : Hall) (n : Fin 4) (x : Session) (slot : Nat) (r r' : Record) (state : StationState)
      (hx : (s.station n).session = some x) (kind : x.kind = .tool slot) (hr : s.records.get slot = some r)
      (tool : r'.tool = r.tool) (cls : r'.cls = r.cls) (life : r'.life = r.life)
      (status : r'.status = .new ∨ ∃ reason, r'.status = .held reason)
      (hs : (s.station n).state.isGauging = true → state = .ready ∨ state = .drift) :
      Effect s ((s.putRecord slot r').setStation n ((s.station n).close state))
  /-- The end of a tool session that leaves the record READY. -/
  | closeReady (s : Hall) (n : Fin 4) (x : Session) (slot : Nat) (r r' : Record) (state : StationState)
      (hx : (s.station n).session = some x) (kind : x.kind = .tool slot) (hr : s.records.get slot = some r)
      (tool : r'.tool = r.tool) (cls : r'.cls = r.cls) (life : r'.life = r.life)
      (hs : (s.station n).state.isGauging = true → state = .ready ∨ state = .drift) :
      Effect s ((enterReady slot r' false s).hall.setStation n ((s.station n).close state))
  /-- A new ticket waits. -/
  | wait (s : Hall) (n : Nat) (t : Ticket) (free : s.tickets.lowestFree Config.tickets = some n)
      (status : t.status = .waiting)
      (cls : s.classes.has t.cls = true ∨ ∃ slot r, s.records.get slot = some r ∧ r.cls = t.cls) :
      Effect s (letWait n t s).hall
  /-- A new ticket is promised a READY record. -/
  | promiseNew (s : Hall) (n : Nat) (t : Ticket) (slot : Nat) (r : Record)
      (free : s.tickets.lowestFree Config.tickets = some n) (hr : s.records.get slot = some r)
      (ready : (r.status = .ready ∧ r.cls = t.cls) ∨ slot ∈ s.chains.list t.cls) :
      Effect s (promiseNew n t slot r s).hall
  /-- A WAITING ticket is cancelled. -/
  | dropWaiting (s : Hall) (n : Nat) (t : Ticket) (ht : s.tickets.get n = some t) (status : t.status = .waiting) :
      Effect s ((leaveWaitQueue n t.cls s).freeTicket n)
  /-- A PROMISED ticket of a channel queue is cancelled. -/
  | withdrawQueued (s : Hall) (n : Nat) (t : Ticket) (slot : Nat) (c : Fin 16) (ht : s.tickets.get n = some t)
      (status : t.status = .promised slot) (hc : n ∈ (s.channel c).queue) :
      Effect s (returnPromise slot ((leaveChannelQueue n c s).freeTicket n)).hall
  /-- A PROMISED ticket of the handover list is cancelled. -/
  | withdrawHanded (s : Hall) (n : Nat) (t : Ticket) (slot : Nat) (ht : s.tickets.get n = some t)
      (status : t.status = .promised slot) (hc : ∀ c, n ∉ (s.channel c).queue) :
      Effect s (returnPromise slot ({ s with handover := s.handover.filter fun x => x != n }.freeTicket n)).hall
  /-- The head of a drawer cycle is cancelled or lapses. -/
  | lapse (s : Hall) (n : Nat) (t : Ticket) (slot : Nat) (c : Fin 16) (ht : s.tickets.get n = some t)
      (status : t.status = .released slot ∨
        ((s.channel c).state = .released ∧ (s.channel c).queue.head? = some n ∧ t.status.slot = some slot))
      (hc : n ∈ (s.channel c).queue) :
      Effect s (moveOn c (returnPromise slot ((endCycle n c s).freeTicket n)).hall)
  /-- No run reaches this (log 20): a RELEASED ticket that stands in no channel queue is cancelled. -/
  | lapseStray (s : Hall) (n : Nat) (t : Ticket) (slot : Nat) (ht : s.tickets.get n = some t)
      (status : t.status = .released slot) (hc : ∀ c, n ∉ (s.channel c).queue) :
      Effect s (returnPromise slot (s.freeTicket n)).hall
  /-- A ticket of the handover list completes. -/
  | handOver (s : Hall) (n : Nat) (t : Ticket) (ht : s.tickets.get n = some t) (hn : n ∈ s.handover) :
      Effect s (complete n t { s with handover := s.handover.filter fun x => x != n }).1
  /-- The head of a drawer cycle completes. -/
  | takeEnds (s : Hall) (n : Nat) (t : Ticket) (c : Fin 16) (ht : s.tickets.get n = some t)
      (state : (s.channel c).state = .opened ∨ (s.channel c).state = .ajar)
      (head : (s.channel c).queue.head? = some n) : Effect s (moveOn c (complete n t (endCycle n c s)).1)
  /-- No run reaches this (log 20): a drawer cycle with no ticket at its head ends. -/
  | cycleStray (s t : Hall) (c : Fin 16) (state : (s.channel c).state.settled = false)
      (head : ∀ n ∈ (s.channel c).queue.head?, ∀ t, s.tickets.get n = some t → t.status.slot = none)
      (ht : t = s ∨ ∃ n, t = endCycle n c s) : Effect s (moveOn c t)
  /-- A cycle starts where it may. -/
  | startCycle (s : Hall) (c : Fin 16) : Effect s (startCycle c s)
  /-- The drawer of a RELEASED channel is opened. -/
  | takeStarts (s : Hall) (c : Fin 16) (state : (s.channel c).state = .released) : Effect s (takeStarts c s)
  /-- A channel is enabled. -/
  | enable (s : Hall) (c : Fin 16) (x : Channel) (old : (s.channel c).enabled = false) (new : x.enabled = true)
      (state : x.state = .idle) (queue : x.queue = (s.channel c).queue) (hand : handoverInDrawer c s = false) :
      Effect s (s.setChannel c x)
  /-- A channel is disabled. -/
  | disable (s : Hall) (c : Fin 16) (x : Channel) (empty : (s.channel c).queue = []) (idle : (s.channel c).state = .idle)
      (new : x.enabled = false) (state : x.state = .off) (queue : x.queue = []) : Effect s (s.setChannel c x)
  /-- The tickets of the wait queues age (R103). -/
  | ageTickets (s : Hall) : Effect s (sweepTickets s).1
  /-- MOUNT. -/
  | mount (s : Hall) (client pocket slot entry : Nat) (r r' : Record) (hr : s.records.get slot = some r)
      (out : r.status = .out) (tool : r'.tool = r.tool) (cls : r'.cls = r.cls) (life : r'.life = r.life)
      (status : r'.status = .mounted) (location : r'.location = .pocket client pocket)
      (machine : (s.client client).role = .machine) (free : findBinding client pocket s.bindings = none)
      (he : s.bindings.lowestFree Config.bindingEntries = some entry) :
      Effect s { s.putRecord slot r' with bindings := s.bindings.put entry ⟨client, pocket, slot, false⟩ }
  /-- DISMOUNT. -/
  | dismount (s : Hall) (entry : Nat) (b : Binding) (r : Record) (hb : (entry, b) ∈ s.bindings)
      (hr : s.records.get b.slot = some r) :
      Effect s { s.putRecord b.slot { r with status := .out, location := .none } with bindings := s.bindings.del entry }
  /-- PROTECT and UNPROTECT. -/
  | protect (s : Hall) (entry : Nat) (b : Binding) (mark : Bool) (hb : (entry, b) ∈ s.bindings) :
      Effect s { s with bindings := s.bindings.put entry { b with isProtected := mark } }
  /-- A charge that leaves life. -/
  | charge (s : Hall) (entry : Nat) (b : Binding) (r r' : Record) (hb : (entry, b) ∈ s.bindings)
      (hr : s.records.get b.slot = some r) (tool : r'.tool = r.tool) (cls : r'.cls = r.cls)
      (status : r'.status = r.status) (location : r'.location = r.location) (before : 0 < r.life) (after : 0 < r'.life) :
      Effect s (s.putRecord b.slot r')
  /-- A charge that brings the life to 0. -/
  | wearOut (s : Hall) (entry : Nat) (b : Binding) (r r' : Record) (hb : (entry, b) ∈ s.bindings)
      (hr : s.records.get b.slot = some r) (tool : r'.tool = r.tool) (cls : r'.cls = r.cls)
      (status : r'.status = r.status) (location : r'.location = r.location) (before : 0 < r.life) (after : r'.life = 0) :
      Effect s (usableFall r.cls (s.putRecord b.slot r')).1
  /-- WIPE. -/
  | wipe (s : Hall) : Effect s (wipeHall s).hall
  /-- A warm start. -/
  | warm (s : Hall) (cause : StartCause) : Effect s (warmStart cause s)
  /-- A cold start. -/
  | cold (s : Hall) (levels : Vector DrawerLevel 16) : Effect s (coldStart levels s)

end Sys2Proof.Machine

/-! ## Every unit's operation is an effect -/

namespace Sys2Proof.Machine

/-! ### What look-ups find -/

theorem lookUpTool_ok {s : Hall} {tool : Word} {slot : Nat} {r : Record} (h : s.lookUpTool tool = .ok (slot, r)) :
    s.index.get tool.toNat = some slot ∧ s.records.get slot = some r := by
  unfold Hall.lookUpTool at h
  split at h
  · split at h
    · rename_i found hf
      cases h
      unfold Hall.findTool at hf
      split at hf
      · cases hf
      · rename_i slot' hi
        obtain ⟨r', hr, e⟩ := Option.map_eq_some_iff.mp hf
        cases e
        exact ⟨hi, hr⟩
    · cases h
  · cases h

theorem lookUpClass_ok {s : Hall} {cls : Word} {c : ClassEntry} (h : s.lookUpClass cls = .ok c) :
    s.classes.get cls.toNat = some c := by
  unfold Hall.lookUpClass at h
  split at h
  · split at h
    · rename_i hc; cases h; exact hc
    · cases h
  · cases h

theorem findTool_some {s : Hall} {tool slot : Nat} {r : Record} (h : s.findTool tool = some (slot, r)) :
    s.records.get slot = some r := by
  unfold Hall.findTool at h
  split at h
  · cases h
  · obtain ⟨r', hr, e⟩ := Option.map_eq_some_iff.mp h
    cases e
    exact hr

theorem findBinding_some {client pocket entry : Nat} {b : Binding} {bindings : Table Binding}
    (h : findBinding client pocket bindings = some (entry, b)) :
    (entry, b) ∈ bindings ∧ b.client = client ∧ b.pocket = pocket := by
  induction bindings with
  | nil => cases h
  | cons e rest ih =>
    obtain ⟨k, x⟩ := e
    unfold findBinding at h
    split at h
    · rename_i found
      cases h
      exact ⟨List.mem_cons_self, found⟩
    · obtain ⟨mem, found⟩ := ih h
      exact ⟨List.mem_cons_of_mem _ mem, found⟩

theorem selectFrom_some {records : Table Record} {t : Ticket} {chain : List Nat} {slot : Nat} {r : Record}
    (h : selectFrom records t chain = some (slot, r)) : slot ∈ chain ∧ records.get slot = some r := by
  induction chain with
  | nil => cases h
  | cons x rest ih =>
    have later : selectFrom records t rest = some (slot, r) → slot ∈ x :: rest ∧ records.get slot = some r :=
      fun h => ⟨List.mem_cons_of_mem _ (ih h).1, (ih h).2⟩
    unfold selectFrom at h
    split at h
    · rename_i rx hx
      split at h
      · cases h; exact ⟨List.mem_cons_self, hx⟩
      · exact later h
    · exact later h

theorem firstMet_mem {tickets : Table Ticket} {r : Record} {queue : List Nat} {n : Nat} {t : Ticket}
    (h : firstMet tickets r queue = some (n, t)) : n ∈ queue ∧ tickets.get n = some t := by
  induction queue with
  | nil => cases h
  | cons x rest ih =>
    have later : firstMet tickets r rest = some (n, t) → n ∈ x :: rest ∧ tickets.get n = some t :=
      fun h => ⟨List.mem_cons_of_mem _ (ih h).1, (ih h).2⟩
    unfold firstMet at h
    split at h
    · rename_i tx hx
      split at h
      · cases h; exact ⟨List.mem_cons_self, hx⟩
      · exact later h
    · exact later h

theorem channelHolding_some {n : Nat} {s : Hall} {c : Fin 16} (h : channelHolding n s = some c) :
    n ∈ (s.channel c).queue := by
  simpa using List.find?_some h

theorem channelHolding_none {n : Nat} {s : Hall} (h : channelHolding n s = none) (c : Fin 16) :
    n ∉ (s.channel c).queue := by
  simpa using List.find?_eq_none.mp h c (List.mem_finRange c)

/-! ### What moving a record leaves alone -/

/-- The tables that neither a chain nor a ticket changes. -/
structure DeskFrame (s t : Hall) : Prop where
  index : t.index = s.index
  stations : t.stations = s.stations
  bindings : t.bindings = s.bindings
  programs : t.programs = s.programs
  clients : t.clients = s.clients

namespace DeskFrame

variable {s t u : Hall}

theorem refl (s : Hall) : DeskFrame s s := ⟨rfl, rfl, rfl, rfl, rfl⟩

theorem trans (h : DeskFrame s t) (k : DeskFrame t u) : DeskFrame s u :=
  ⟨k.1.trans h.1, k.2.trans h.2, k.3.trans h.3, k.4.trans h.4, k.5.trans h.5⟩

theorem usableRise (cls : Nat) (s : Hall) : DeskFrame s (usableRise cls s) := by
  unfold Machine.usableRise
  split <;> exact ⟨rfl, rfl, rfl, rfl, rfl⟩

theorem startCycle (c : Fin 16) (s : Hall) : DeskFrame s (startCycle c s) := by
  unfold Machine.startCycle
  split
  · dsimp only
    split <;> exact ⟨rfl, rfl, rfl, rfl, rfl⟩
  · exact refl s

theorem placeWithDrawer (n : Nat) (t : Ticket) (location : Location) (s : Hall) :
    DeskFrame s (placeWithDrawer n t location s).1 := by
  unfold Machine.placeWithDrawer
  split
  · split
    · exact (show DeskFrame s (s.setChannel _ _) from ⟨rfl, rfl, rfl, rfl, rfl⟩).trans (startCycle _ _)
    · exact ⟨rfl, rfl, rfl, rfl, rfl⟩
  · exact ⟨rfl, rfl, rfl, rfl, rfl⟩

theorem promise (n : Nat) (t : Ticket) (slot : Nat) (r : Record) (s : Hall) :
    DeskFrame s (promise n t slot r s).1 := by
  unfold Machine.promise
  refine DeskFrame.trans ?_ (placeWithDrawer _ _ _ _)
  split <;> exact ⟨rfl, rfl, rfl, rfl, rfl⟩

theorem offer (slot : Nat) (s : Hall) : DeskFrame s (offer slot s).hall := by
  unfold Machine.offer
  split
  · split
    · exact promise _ _ _ _ _
    · exact refl s
  · exact refl s

theorem enterReady (slot : Nat) (r : Record) (wasUsable : Bool) (s : Hall) :
    DeskFrame s (enterReady slot r wasUsable s).hall := by
  unfold Machine.enterReady
  refine DeskFrame.trans ?_ (offer _ _)
  have joined : DeskFrame s (joinChain slot { r with status := .ready } (s.putRecord slot { r with status := .ready })) :=
    ⟨rfl, rfl, rfl, rfl, rfl⟩
  split
  · exact joined
  · exact joined.trans (usableRise _ _)

end DeskFrame

/-- A station as it was while a record enters READY. -/
theorem enterReady_station (slot : Nat) (r : Record) (wasUsable : Bool) (s : Hall) (n : Fin 4) :
    (enterReady slot r wasUsable s).hall.station n = s.station n := by
  simp only [Hall.station, (DeskFrame.enterReady slot r wasUsable s).stations]

@[simp] theorem setStation_setStation (s : Hall) (n : Fin 4) (x y : Station) :
    (s.setStation n x).setStation n y = s.setStation n y := by
  simp [Hall.setStation]

@[simp] theorem setChannel_setChannel (s : Hall) (c : Fin 16) (x y : Channel) :
    (s.setChannel c x).setChannel c y = s.setChannel c y := by
  simp [Hall.setChannel]

/-! ### Effects put together -/

namespace Effect

theorem refl (s : Hall) : Effect s s := config s s.mode s.sweep s.flags s.enables s.startKind s.startCause s.freeIndex

theorem of_eq {s t : Hall} (h : t = s) : Effect s t := h ▸ refl s

theorem setFlag (f : Flag) (s : Hall) : Effect s (setFlag f s) :=
  config s s.mode s.sweep _ s.enables s.startKind s.startCause s.freeIndex

theorem mode (m : IssueMode) (s : Hall) : Effect s { s with mode := m } :=
  config s m s.sweep s.flags s.enables s.startKind s.startCause s.freeIndex

theorem sweepTimer (x : SweepTimer) (s : Hall) : Effect s { s with sweep := x } :=
  config s s.mode x s.flags s.enables s.startKind s.startCause s.freeIndex

theorem drainCheck (s : Hall) : Effect s (drainCheck s) := by
  unfold Machine.drainCheck
  split
  · split
    · exact mode _ s
    · exact refl s
  · exact refl s

/-- One channel is rewritten in what no other table sees. -/
theorem channel (s : Hall) (c : Fin 16) (x : Channel) (h : (s.channel c).Alike x) : Effect s (s.setChannel c x) :=
  banks s s.stations _ (fun _ => .refl _) fun d => by
    by_cases hd : c = d
    · subst hd; simpa [Hall.setChannel, Hall.channel, Vector.get_eq_getElem] using h
    · have := setChannel_channel_ne s c d x hd
      simp only [Hall.channel, Hall.setChannel] at this
      rw [this]
      exact .refl _

/-- One station is rewritten in what no other table sees. -/
theorem station (s : Hall) (n : Fin 4) (x : Station) (h : (s.station n).Alike x) : Effect s (s.setStation n x) :=
  banks s _ s.channels (fun m => by
    by_cases hm : n = m
    · subst hm; simpa [Hall.setStation, Hall.station, Vector.get_eq_getElem] using h
    · have := setStation_station_ne s n m x hm
      simp only [Hall.station, Hall.setStation] at this
      rw [this]
      exact .refl _) fun _ => .refl _

theorem holdEach (p : Record → Bool) (reason : HoldReason) (slots : List Nat) (s : Hall) :
    Effect s (holdEach p reason slots s).1 := by
  induction slots generalizing s with
  | nil => exact refl s
  | cons slot rest ih =>
    unfold Machine.holdEach
    split
    · exact ih s
    · rename_i r hr
      split
      · rename_i cond
        have status : r.status = .ready := by simp_all
        exact (hold s slot r r reason hr status rfl rfl rfl).trans (ih _)
      · exact ih s

theorem startCycles (s : Hall) : Effect s (startCycles s) := by
  unfold Machine.startCycles
  generalize List.finRange 16 = cs
  induction cs generalizing s with
  | nil => exact refl s
  | cons c rest ih => exact (startCycle s c).trans (ih _)

theorem countReject (cls : Nat) (s : Hall) : Effect s (countReject cls s) := by
  unfold Machine.countReject
  split
  · exact refl s
  · rename_i c hc
    exact counters s cls c c.issues c.rejects.bump hc

end Effect

/-! ### Requests of the record store -/

theorem enrolTool_effect (tool cls : Word) (loc : CribLoc) (life : Option Word) (s : Hall) :
    Effect s (enrolTool tool cls loc life s).hall := by
  unfold enrolTool
  split
  · exact .refl s
  split
  · exact .refl s
  split
  · exact .refl s
  split
  · exact .refl s
  rename_i c hc
  split
  · exact .refl s
  rename_i free
  split
  · exact .refl s
  rename_i slot hs
  exact .enrol s slot _ _ life _ c hc (by simpa [Table.has] using free) hs

theorem retireTool_effect (tool : Word) (s : Hall) : Effect s (retireTool tool s).hall := by
  unfold retireTool
  split
  · exact .refl s
  rename_i slot r found
  have hr := (lookUpTool_ok found).2
  split
  case h_5 ready => exact .freeReady s slot r hr ready
  case h_6 new => exact .free s slot r hr (.inl new)
  case h_7 reason held => exact .free s slot r hr (.inr ⟨reason, held⟩)
  all_goals exact .refl s

theorem holdTool_effect (tool : Word) (s : Hall) : Effect s (holdTool tool s).hall := by
  unfold holdTool
  split
  · exact .refl s
  rename_i slot r found
  have hr := (lookUpTool_ok found).2
  split
  case h_6 new =>
    exact .record s slot r _ hr (.of_loose rfl rfl (.inl new) (.inr ⟨_, rfl⟩) fun ok life => by
      simpa [new] using ok life)
  case h_7 ready => exact .hold s slot r r .manual hr ready rfl rfl rfl
  all_goals exact .refl s

/-- A HELD record but a WORN one goes to NEW with its geometry cleared. -/
theorem clearGeometry_effect {s : Hall} {slot : Nat} {r : Record} {reason : HoldReason}
    (hr : s.records.get slot = some r) (status : r.status = .held reason) (worn : reason ≠ .worn) :
    Effect s (s.putRecord slot r.clearGeometry) :=
  .record s slot r _ hr (.of_loose rfl rfl (.inr ⟨_, status⟩) (.inl rfl) fun ok life => by
    simp_all [Record.LifeOk, Record.clearGeometry])

theorem releaseWithout_effect {s : Hall} {slot : Nat} {r : Record} {reason : HoldReason}
    (hr : s.records.get slot = some r) (status : r.status = .held reason) :
    Effect s (releaseWithout slot r reason s).hall := by
  have toReady (alive : 0 < r.life) : Effect s (enterReady slot r false s).hall := by
    simpa [status] using Effect.ready s slot r r hr (.inr ⟨reason, status⟩) alive rfl rfl rfl
  unfold releaseWithout
  cases reason with
  | worn => exact .refl s
  | audit | manual =>
    dsimp only
    split
    · rename_i cond
      exact toReady (by simp_all)
    · exact clearGeometry_effect hr status (by simp)
  | rejected | stale | suspect => exact clearGeometry_effect hr status (by simp)

theorem releaseRegrind_effect {s : Hall} {slot : Nat} {r : Record} {reason : HoldReason}
    (hr : s.records.get slot = some r) (status : r.status = .held reason) :
    Effect s (releaseRegrind slot r s).hall := by
  unfold releaseRegrind
  split
  · exact .refl s
  dsimp only
  split
  · exact .refl s
  split
  · exact .refl s
  · rename_i c _ _ hard
    refine .record s slot r _ hr (.of_loose rfl rfl (.inr ⟨_, status⟩) (.inl rfl) fun _ life => ?_)
    change c.shape.fullLife - _ = 0 at life
    omega

theorem releaseHeld_effect (tool : Word) (regrind : Bool) (s : Hall) : Effect s (releaseHeld tool regrind s).hall := by
  unfold releaseHeld
  split
  · exact .refl s
  rename_i slot r found
  have hr := (lookUpTool_ok found).2
  split
  case h_2 reason held =>
    split
    · exact releaseRegrind_effect hr held
    · exact releaseWithout_effect hr held
  all_goals exact .refl s

theorem moveTool_effect (tool : Word) (loc : CribLoc) (s : Hall) : Effect s (moveTool tool loc s).hall := by
  unfold moveTool
  split
  · exact .refl s
  rename_i location _
  split
  · exact .refl s
  rename_i slot r found
  have hr := (lookUpTool_ok found).2
  have moved (h : r.status = .new ∨ r.status = .ready ∨ ∃ reason, r.status = .held reason) :
      Effect s (s.putRecord slot { r with location }) := by
    refine .record s slot r _ hr ⟨rfl, rfl, rfl, ?_, ?_, rfl, rfl, id⟩ <;>
      rcases h with h | h | ⟨_, h⟩ <;> simp [Record.promisedView, Record.mountedView, h]
  split
  case h_5 new => exact moved (.inl new)
  case h_6 ready => exact moved (.inr (.inl ready))
  case h_7 reason held => exact moved (.inr (.inr ⟨reason, held⟩))
  all_goals exact .refl s

theorem queryRecord_hall (tool : Word) (s : Hall) : (queryRecord tool s).hall = s := by
  unfold queryRecord
  split <;> rfl

theorem findInClass_hall (cls start : Word) (s : Hall) : (findInClass cls start s).hall = s := by
  unfold findInClass
  split
  · rfl
  split <;> rfl

/-! ### Requests of the class table -/

theorem defineEntry_effect (cls : Word) (shape : ShapeWords) (policy : PolicyWords) (s : Hall) :
    Effect s (defineEntry cls shape policy s).hall := by
  unfold defineEntry
  dsimp only
  split
  · exact .refl s
  split
  · exact .refl s
  rename_i range
  have life : 1 ≤ (shapeOf shape).fullLife := by
    simp [Shape.inRange] at range
    omega
  split
  · rename_i free
    exact .defineClass s _ _ free life rfl rfl
  · rename_i old hc
    split
    · exact .refl s
    · exact .redefineClass s _ old _ hc life rfl rfl

theorem queryEntry_hall (cls : Word) (s : Hall) : (queryEntry cls s).hall = s := by
  unfold queryEntry
  split <;> rfl

theorem deleteEntry_effect (cls : Word) (s : Hall) : Effect s (deleteEntry cls s).hall := by
  unfold deleteEntry
  split
  · exact .refl s
  split
  · exact .refl s
  · rename_i idle
    exact .deleteClass s _ (by simpa using idle)

theorem classStats_effect (cls : Word) (clear : Bool) (s : Hall) : Effect s (classStats cls clear s).hall := by
  unfold classStats
  split
  · exact .refl s
  · rename_i c found
    cases clear with
    | false => exact .refl s
    | true => exact .counters s _ c ⟨0, false⟩ ⟨0, false⟩ (lookUpClass_ok found)

/-! ### Requests of the presetting unit -/

/-- A calibration write: a half is staged and R51 follows. -/
theorem afterWrite_effect {s : Hall} {n : Fin 4} {x : Station} (h : (s.station n).Alike x) :
    Effect s (s.setStation n x.afterWrite) := by
  have := (Effect.station s n x h).trans (Effect.calibrate _ n)
  rwa [setStation_station, setStation_setStation] at this

theorem writeGeometry_effect (client : Nat) (station : Word) (values : GeometryWords) (s : Hall) :
    Effect s (writeGeometry client station values s).hall := by
  unfold writeGeometry
  split
  · exact .refl s
  split
  · exact .refl s
  split
  · exact .refl s
  · exact afterWrite_effect ⟨rfl, rfl, rfl, rfl, fun _ => rfl, id⟩

theorem writeCorrection_effect (client : Nat) (station : Word) (values : CorrectionWords) (s : Hall) :
    Effect s (writeCorrection client station values s).hall := by
  unfold writeCorrection
  split
  · exact .refl s
  split
  · exact .refl s
  split
  · exact .refl s
  · exact afterWrite_effect ⟨rfl, rfl, rfl, rfl, id, fun _ => rfl⟩

theorem configureGaugeWindow_effect (station window : Word) (s : Hall) :
    Effect s (configureGaugeWindow station window s).hall := by
  unfold configureGaugeWindow
  split
  · exact .refl s
  · exact .station s _ _ ⟨rfl, rfl, rfl, rfl, id, id⟩

theorem queryStationImage_hall (station : Word) (s : Hall) : (queryStationImage station s).hall = s := by
  unfold queryStationImage
  split <;> rfl

theorem holdCalibration_effect (station generation : Word) (s : Hall) :
    Effect s (holdCalibration station generation s).hall := by
  unfold holdCalibration
  split
  · exact .refl s
  split
  · exact .refl s
  · exact .holdEach _ _ _ s

theorem beginTool_effect {n : Fin 4} (tool : Word) {s : Hall} (state : (s.station n).state = .ready) :
    Effect s (beginTool n .ready tool s).hall := by
  unfold beginTool
  split
  · exact .refl s
  rename_i slot r found
  have hr := (lookUpTool_ok found).2
  split
  · exact .refl s
  rename_i resume ok
  have admitted : (resume ≠ .ready ∧ (r.status = .new ∨ ∃ reason, r.status = .held reason) ∧ r.status ≠ .held .worn) ∨
      (resume = .ready ∧ r.status = .ready) := by
    revert ok
    cases hs : r.status with
    | held reason => cases reason <;> simp [resumeOf] <;> rintro rfl <;> simp
    | _ => simp [resumeOf] <;> rintro rfl <;> simp
  obtain ⟨other, loose, worn⟩ | ⟨rfl, ready⟩ := admitted
  · cases resume with
    | ready => exact absurd rfl other
    | new => exact .beginLoose s n slot r .new state hr loose worn
    | held reason => exact .beginLoose s n slot r (.held reason) state hr loose worn
  · exact .beginReady s n slot r state hr ready

theorem beginSession_effect (client : Nat) (tool : Word) (s : Hall) : Effect s (beginSession client tool s).hall := by
  unfold beginSession
  split
  · exact .refl s
  rename_i n _
  split
  · exact .refl s
  · exact .refl s
  · rename_i state
    split
    · exact .beginMaster s n .drift state
    · exact .refl s
  · rename_i state
    split
    · exact .beginMaster s n .ready state
    · exact beginTool_effect tool state

theorem takePoint_effect (client : Nat) (z x : Word) (s : Hall) : Effect s (takePoint client z x s).hall := by
  unfold takePoint
  split
  · exact .refl s
  dsimp only
  split
  · exact .refl s
  rename_i session open_
  split
  · exact .refl s
  split
  · exact .refl s
  · exact .station s _ _ ⟨rfl, by simp [open_], rfl, rfl, id, id⟩

theorem countReject_setStation (cls : Nat) (s : Hall) (n : Fin 4) (x : Station) :
    (countReject cls s).setStation n x = countReject cls (s.setStation n x) := by
  unfold countReject
  change _ = match s.classes.get cls with | none => _ | some c => _
  cases s.classes.get cls <;> rfl

theorem countReject_station (cls : Nat) (s : Hall) (n : Fin 4) : (countReject cls s).station n = s.station n := by
  unfold countReject
  split <;> rfl

theorem endTool_effect {n : Fin 4} {slot : Nat} {x : Session} {s : Hall} (hx : (s.station n).session = some x)
    (kind : x.kind = .tool slot) (points : Nat) (m : Gathered) (temperature : Int) :
    Effect s (endTool n slot points m temperature s).hall := by
  unfold endTool
  dsimp only
  split
  · exact .refl s
  rename_i r hr
  split
  · exact .refl s
  rename_i c _
  unfold applyResult
  dsimp only
  split
  · rw [enterReady_station]
    exact .closeReady s n x slot r _ .ready hx kind hr rfl rfl rfl fun _ => .inl rfl
  · refine Effect.trans (.closeLoose s n x slot r
      { r with
        status := .held .rejected
        measured := some (⟨m.length, m.radius, m.runout, writtenGrade (gradeIndex c.shape m.length)⟩,
          ⟨n, (s.station n).generation, temperature, 0⟩)
        rejectCause := classify c.shape m }
      .ready hx kind hr rfl rfl rfl (.inr ⟨_, rfl⟩) fun _ => .inl rfl) ?_
    rw [countReject_station, countReject_setStation]
    exact .countReject _ _

theorem endMaster_effect {n : Fin 4} {x : Session} {s : Hall} (hx : (s.station n).session = some x)
    (kind : x.kind = .master) (points : Nat) (m : Gathered) (g : GeometryHalf) (c : CorrectionHalf)
    (temperature : Int) : Effect s (endMaster n points m g c temperature s).hall := by
  have closes (t : Hall) (state : StationState) (same : t.station n = s.station n)
      (hs : state = .ready ∨ state = .drift) : Effect t (t.setStation n ((s.station n).close state)) := by
    rw [← same] at hx ⊢
    exact .closeMaster t n x state hx (by simp [kind]) fun _ => hs
  unfold endMaster
  dsimp only
  split
  · exact closes s _ rfl (.inl rfl)
  · exact (Effect.setFlag .drift s).trans (closes _ _ rfl (.inr rfl))

theorem endSession_effect (client : Nat) (temperature : Word) (s : Hall) :
    Effect s (endSession client temperature s).hall := by
  unfold endSession
  split
  · exact .refl s
  split
  · exact .refl s
  rename_i session hx
  dsimp only
  split
  · exact .refl s
  · exact .refl s
  · split
    · rename_i slot kind
      exact endTool_effect hx kind _ _ _
    · rename_i kind
      exact endMaster_effect hx kind _ _ _ _ _

theorem abortSession_effect {n : Fin 4} {x : Session} {s : Hall} (hx : (s.station n).session = some x) :
    Effect s (abortSession n x s).offered.hall := by
  have entry : (s.station n).state.isGauging = true →
      (match (s.station n).state with | .gauging entry => entry.state | other => other) = .ready ∨
      (match (s.station n).state with | .gauging entry => entry.state | other => other) = .drift := by
    cases (s.station n).state with
    | gauging entry => cases entry <;> simp [EntryState.state]
    | _ => simp [StationState.isGauging]
  unfold abortSession
  dsimp only
  split
  · rename_i kind
    exact .closeMaster s n x _ hx (by simp [kind]) entry
  · rename_i slot kind
    split
    · rename_i free
      exact .closeMaster s n x _ hx (by simp_all) entry
    · rename_i r hr
      split
      · rename_i resume gauging
        cases resume with
        | ready => exact .closeReady s n x slot r r _ hx kind hr rfl rfl rfl entry
        | new => exact .closeLoose s n x slot r _ _ hx kind hr rfl rfl rfl (.inl rfl) entry
        | held reason => exact .closeLoose s n x slot r _ _ hx kind hr rfl rfl rfl (.inr ⟨_, rfl⟩) entry
      · rename_i idle
        refine .closeMaster s n x _ hx (fun slot' kind' r' hr' => ?_) entry
        obtain rfl : slot = slot' := by simpa [kind] using kind'
        obtain rfl : r = r' := by simpa [hr] using hr'
        cases status : r.status with
        | gauging resume => exact absurd status (idle resume)
        | _ => rfl

theorem abortByRequest_effect (client : Nat) (s : Hall) : Effect s (abortByRequest client s).hall := by
  unfold abortByRequest
  split
  · exact .refl s
  split
  · exact .refl s
  · rename_i x hx
    exact abortSession_effect hx

theorem gaugeExpiry_effect (n : Fin 4) (s : Hall) : Effect s (gaugeExpiry n s).1 := by
  unfold gaugeExpiry
  split
  · exact .refl s
  · rename_i x hx
    exact abortSession_effect hx

end Sys2Proof.Machine

namespace Sys2Proof.Machine

/-! ### Requests of the issue unit -/

theorem answerServed_hall (n : Nat) (t : Ticket) (v : Served) : (answerServed n t v).hall = v.hall := by
  unfold answerServed
  split <;> rfl

theorem serveByClass_effect {n : Nat} {t : Ticket} {s : Hall} (free : s.tickets.lowestFree Config.tickets = some n)
    (status : t.status = .waiting)
    (cls : s.classes.has t.cls = true ∨ ∃ slot r, s.records.get slot = some r ∧ r.cls = t.cls) :
    Effect s (serveByClass n t s).hall := by
  unfold serveByClass
  split
  · split
    · rename_i slot r found
      obtain ⟨mem, hr⟩ := selectFrom_some found
      exact .promiseNew s n t slot r free hr (.inr mem)
    · exact .wait s n t free status cls
  · exact .wait s n t free status cls

theorem issueByTool_effect (client : Nat) (tag : Word) (form : IssueForm) (s : Hall) :
    Effect s (issueByTool client tag form s).hall := by
  unfold issueByTool
  split
  · exact .refl s
  rename_i slot r found
  split
  · exact .refl s
  rename_i n free
  split
  case h_2 ready online =>
    dsimp only
    rw [answerServed_hall]
    exact .promiseNew s n _ slot r free (findTool_some found) (.inl ⟨ready, rfl⟩)
  all_goals exact .refl s

theorem issueByClass_effect (client : Nat) (tag : Word) (form : IssueForm) (s : Hall) :
    Effect s (issueByClass client tag form s).hall := by
  unfold issueByClass
  split
  · exact .refl s
  rename_i c hc
  split
  · exact .refl s
  rename_i n free
  dsimp only
  rw [answerServed_hall]
  exact serveByClass_effect free rfl (.inl (by simp [Table.has, issuedTicket, hc]))

theorem issueTicket_effect (client : Nat) (tag : Word) (form : IssueForm) (s : Hall) :
    Effect s (issueTicket client tag form s).hall := by
  unfold issueTicket
  split
  · exact .refl s
  split
  · exact issueByTool_effect client tag form s
  · exact issueByClass_effect client tag form s

theorem cancelTicket_effect {client n : Nat} {t : Ticket} {s : Hall} (ht : s.tickets.get n = some t) :
    Effect s (cancelTicket client n t s).hall := by
  unfold cancelTicket
  split
  · rename_i status
    exact .dropWaiting s n t ht status
  · rename_i slot status
    dsimp only [cancelPromisedReply]
    split
    · rename_i c found
      exact .withdrawQueued s n t slot c ht status (channelHolding_some found)
    · rename_i none_
      exact .withdrawHanded s n t slot ht status (channelHolding_none none_)
  · rename_i slot status
    split
    · rename_i c found
      exact .lapse s n t slot c ht (.inl status) (channelHolding_some found)
    · rename_i none_
      exact .lapseStray s n t slot ht status (channelHolding_none none_)
  · exact .refl s

theorem cancelByNumber_effect (client : Nat) (ticket : Word) (tag : Option Word) (s : Hall) :
    Effect s (cancelByNumber client ticket tag s).hall := by
  unfold cancelByNumber
  split
  · exact .refl s
  split
  · exact .refl s
  rename_i t ht
  split
  · exact .refl s
  split
  · exact .refl s
  · exact cancelTicket_effect ht

theorem returnRecord_effect {slot : Nat} {r : Record} (location : Location) {s : Hall}
    (hr : s.records.get slot = some r) (out : r.status = .out) : Effect s (returnRecord slot r location s).hall := by
  unfold returnRecord
  dsimp only
  split
  · rename_i life
    exact .record s slot r _ hr ⟨rfl, rfl, by simp [Record.readyKey, out], by simp [Record.promisedView, out],
      by simp [Record.mountedView, out], by simp [RecordStatus.isGauging, out], by simp [Record.usable, out, life],
      fun _ _ => .inr (.inr rfl)⟩
  rename_i alive
  split
  · exact .holdOut s slot r { r with location, outAge := 0, overdue := false, dest := none } .stale hr out (by omega) rfl
      rfl rfl
  · simpa [out] using Effect.ready s slot r { r with location, outAge := 0, overdue := false, dest := none } hr
      (.inl out) (by omega) rfl rfl rfl

theorem returnToCrib_effect (tool : Word) (loc : CribLoc) (s : Hall) : Effect s (returnToCrib tool loc s).hall := by
  unfold returnToCrib
  split
  · exact .refl s
  split
  · exact .refl s
  rename_i slot r found
  split
  case h_2 out => exact returnRecord_effect _ (lookUpTool_ok found).2 out
  all_goals exact .refl s

theorem changeMode_effect (on : Bool) (s : Hall) : Effect s (changeMode on s).hall := by
  unfold changeMode
  split
  · split
    · exact .refl s
    · dsimp only
      have started := (Effect.mode .online s).trans (.startCycles _)
      generalize Machine.startCycles { s with mode := .online } = t at started ⊢
      exact started.trans (.offers t)
  · split
    · exact (Effect.mode .draining s).trans (.drainCheck _)
    · exact .refl s

theorem queryPool_hall (cls start : Word) (s : Hall) : (queryPool cls start s).hall = s := by
  unfold queryPool
  dsimp only
  split
  · rfl
  split
  · rfl
  split <;> rfl

theorem queryTicketImage_hall (ticket : Word) (s : Hall) : (queryTicketImage ticket s).hall = s := by
  unfold queryTicketImage
  split
  · rfl
  split <;> rfl

/-! ### Requests and events of the drawer unit -/

theorem configureDrawer_effect (channel : Word) (enabled : Bool) (openWindow takeWindow : Word) (s : Hall) :
    Effect s (configureDrawer channel enabled openWindow takeWindow s).hall := by
  unfold configureDrawer
  split
  · exact .refl s
  rename_i c _
  dsimp only
  split
  · rename_i old
    split
    · exact .refl s
    split
    · exact .refl s
    · rename_i free
      exact .enable s c _ old rfl rfl rfl (by simpa using free)
  · split
    · rename_i cond
      obtain ⟨idle, empty⟩ : (s.channel c).state = .idle ∧ (s.channel c).queue = [] := by simpa using cond
      refine Effect.trans ?_ (.drainCheck _)
      exact .disable s c _ empty idle rfl rfl empty
    · exact .refl s
  · rename_i notOn notOff
    refine .channel s c _ ⟨rfl, ?_, .inl rfl⟩
    rename_i choice _ _
    cases h : (s.channel c).enabled <;> cases choice
    · rfl
    · exact (notOn h rfl).elim
    · exact (notOff h rfl).elim
    · rfl

theorem clearDrawer_effect (channel : Word) (s : Hall) : Effect s (clearDrawer channel s).hall := by
  unfold clearDrawer
  split
  · exact .refl s
  rename_i c _
  split
  case h_2 forced _ =>
    exact (Effect.channel s c { s.channel c with state := .idle } ⟨rfl, rfl, .inr (.inl ⟨forced, rfl⟩)⟩).trans
      (.startCycle _ c)
  all_goals exact .refl s

theorem handOver_effect (ticket : Word) (tag : Option Word) (s : Hall) : Effect s (handOver ticket tag s).hall := by
  unfold handOver
  split
  · exact .refl s
  split
  · exact .refl s
  rename_i t ht
  split
  · exact .refl s
  split
  · exact .refl s
  · rename_i listed
    exact .handOver s _ t ht (by simpa using listed)

theorem queryDrawer_hall (channel start : Word) (s : Hall) : (queryDrawer channel start s).hall = s := by
  unfold queryDrawer
  split
  · rfl
  split <;> rfl

theorem queryHandoverList_hall (start : Word) (s : Hall) : (queryHandoverList start s).hall = s := by
  unfold queryHandoverList
  split <;> rfl

/-- The level and the filter of a channel. -/
theorem levels_effect (s : Hall) (c : Fin 16) (filter level : DrawerLevel) :
    Effect s (s.setChannel c { s.channel c with filter, level }) :=
  .channel s c _ ⟨rfl, rfl, .inl rfl⟩

theorem openedEvent_effect (c : Fin 16) (s : Hall) : Effect s (openedEvent c s).1 := by
  unfold openedEvent
  split
  · exact .refl s
  refine (levels_effect s c .open .open).trans ?_
  generalize s.setChannel c _ = t
  dsimp only
  split
  · rename_i idle
    exact ((Effect.channel t c { t.channel c with state := .forced } ⟨rfl, rfl, .inr (.inr (.inl ⟨idle, rfl⟩))⟩).trans
      (.holdEach _ _ _ _)).trans (.setFlag _ _)
  · rename_i released
    exact .takeStarts t c released
  all_goals exact .refl t

theorem takeEnds_effect {c : Fin 16} {s : Hall} (state : (s.channel c).state = .opened ∨ (s.channel c).state = .ajar) :
    Effect s (takeEnds c s).1 := by
  have cycling : (s.channel c).state.settled = false := by rcases state with h | h <;> simp [h, ChannelState.settled]
  unfold takeEnds
  split
  · rename_i empty
    exact .cycleStray s s c cycling (by simp [empty]) (.inl rfl)
  · rename_i n rest queue
    split
    · rename_i free
      exact .cycleStray s _ c cycling (by simp [queue, free]) (.inr ⟨n, rfl⟩)
    · rename_i t ht
      exact .takeEnds s n t c ht state (by simp [queue])

theorem closedEvent_effect (c : Fin 16) (s : Hall) : Effect s (closedEvent c s).1 := by
  unfold closedEvent
  split
  · exact .refl s
  refine (levels_effect s c .shut .shut).trans ?_
  generalize s.setChannel c _ = t
  dsimp only
  split
  case h_1 opened => exact takeEnds_effect (.inl opened)
  case h_2 ajar => exact takeEnds_effect (.inr ajar)
  all_goals exact .refl t

theorem openExpiry_effect (c : Fin 16) (s : Hall) : Effect s (openExpiry c s).1 := by
  unfold openExpiry
  split
  · rename_i released
    have cycling : (s.channel c).state.settled = false := by simp [released, ChannelState.settled]
    split
    · rename_i empty
      exact .cycleStray s s c cycling (by simp [empty]) (.inl rfl)
    rename_i n rest queue
    split
    · rename_i free
      exact .cycleStray s _ c cycling (by simp [queue, free]) (.inr ⟨n, rfl⟩)
    rename_i t ht
    split
    · rename_i noSlot
      exact .cycleStray s _ c cycling (by simp [queue, ht, noSlot]) (.inr ⟨n, rfl⟩)
    · rename_i slot hslot
      exact .lapse s n t slot c ht (.inr ⟨released, by simp [queue], hslot⟩) (by simp [queue])
  · exact .refl s

theorem takeExpiry_effect (c : Fin 16) (s : Hall) : Effect s (takeExpiry c s).1 := by
  unfold takeExpiry
  dsimp only
  split
  · rename_i opened
    refine Effect.trans ?_ (.setFlag _ _)
    exact .channel s c _ ⟨rfl, rfl, .inr (.inr (.inr ⟨opened, rfl⟩))⟩
  · exact .refl s

/-! ### Requests of the pocket unit -/

theorem refuseRender_hall (e : RenderFailure) (s : Hall) : (refuseRender e s).hall = s := by
  cases e <;> rfl

theorem mountTool_effect (client : Nat) (tool pocket : Word) (s : Hall) :
    Effect s (mountTool client tool pocket s).hall := by
  unfold mountTool
  split
  · exact .refl s
  rename_i range
  have machine : (s.client client).role = .machine := by
    revert range
    cases s.client client <;> simp [ClientEntry.pocketCount, ClientEntry.role] <;> omega
  split
  · exact .refl s
  rename_i slot r found
  split
  case h_2 out =>
    unfold mountRecord
    split
    · exact .refl s
    split
    · exact .refl s
    rename_i free
    split
    · exact .refl s
    rename_i entry he
    split
    · rw [refuseRender_hall]; exact .refl s
    · exact .mount s client pocket.toNat slot entry r _ (lookUpTool_ok found).2 out rfl rfl rfl rfl rfl machine
        (by simpa using free) he
  all_goals exact .refl s

theorem dismountPocket_effect (client : Nat) (pocket : Word) (s : Hall) :
    Effect s (dismountPocket client pocket s).hall := by
  unfold dismountPocket
  split
  · exact .refl s
  split
  · exact .refl s
  rename_i entry b found
  split
  · exact .refl s
  split
  · exact .refl s
  · rename_i r hr
    exact .dismount s entry b r (findBinding_some found).1 hr

theorem setProtection_effect (client : Nat) (pocket : Word) (mark : Bool) (s : Hall) :
    Effect s (setProtection client pocket mark s).hall := by
  unfold setProtection
  split
  · exact .refl s
  split
  · exact .refl s
  · rename_i entry b found
    exact .protect s entry b mark (findBinding_some found).1

/-- A new geometry is nothing that another table sees. -/
theorem adjusted_effect {slot : Nat} {r : Record} {s : Hall} (hr : s.records.get slot = some r)
    (measured : Option (Geometry × Measurement)) : Effect s (s.putRecord slot { r with measured }) :=
  .record s slot r _ hr (.of_eq rfl rfl rfl rfl rfl)

theorem adjustInCrib_effect {slot : Nat} {r : Record} {s : Hall} (hr : s.records.get slot = some r)
    (before after : Geometry) (m : Measurement) : Effect s (adjustInCrib slot r before after m s).hall := by
  unfold adjustInCrib
  dsimp only
  split
  · rename_i cond
    have ready : r.status = .ready := by simp_all
    have offered := (adjusted_effect hr (some (after, m))).trans (.offer _ slot _ (get_put_self ..) ready)
    split <;> exact offered
  · exact adjusted_effect hr _

theorem adjustMounted_effect {slot : Nat} {r : Record} {s : Hall} (hr : s.records.get slot = some r) (b : Binding)
    (before after : Geometry) (m : Measurement) : Effect s (adjustMounted slot r b before after m s).hall := by
  unfold adjustMounted
  dsimp only
  split
  · rw [refuseRender_hall]; exact .refl s
  · exact adjusted_effect hr _

theorem adjustRecord_effect {slot : Nat} {r : Record} {s : Hall} (hr : s.records.get slot = some r) (dl dr : Int) :
    Effect s (adjustRecord slot r dl dr s).hall := by
  unfold adjustRecord
  split
  · dsimp only
    split
    · split
      · exact .refl s
      split
      · exact .refl s
      split
      · exact .refl s
      · exact adjustMounted_effect hr _ _ _ _
    · split
      · exact .refl s
      · exact adjustInCrib_effect hr _ _ _
  · exact .refl s

theorem adjustTool_effect (tool lengthDelta radiusDelta : Word) (s : Hall) :
    Effect s (adjustTool tool lengthDelta radiusDelta s).hall := by
  unfold adjustTool
  split
  · exact .refl s
  split
  · exact .refl s
  rename_i slot r found
  have adjusts := adjustRecord_effect (lookUpTool_ok found).2 (signedOf lengthDelta) (signedOf radiusDelta)
  split
  · exact .refl s
  · exact .refl s
  · exact .refl s
  all_goals exact adjusts

theorem resendHandoffBlock_hall (client : Nat) (machine : Option Word) (pocket : Word) (s : Hall) :
    (resendHandoffBlock client machine pocket s).hall = s := by
  unfold resendHandoffBlock
  split
  · unfold resendToSender
    split
    · rfl
    split
    · rfl
    split
    · rfl
    split
    · exact refuseRender_hall _ s
    · rfl
  · unfold resendByToolroom
    split
    · rfl
    split
    · rfl
    split
    · rfl
    split
    · rfl
    split
    · exact refuseRender_hall _ s
    · rfl

theorem queryMagazine_hall (client : Nat) (machine pocket : Word) (s : Hall) :
    (queryMagazine client machine pocket s).hall = s := by
  unfold queryMagazine
  split
  · rfl
  split <;> rfl

/-! ### Requests of the rendering unit -/

theorem storeSteps_effect (program : Byte) (bytes : List Byte) (s : Hall) :
    Effect s (storeSteps program bytes s).hall := by
  unfold storeSteps
  split
  · rename_i range
    split
    · exact .refl s
    · exact .program s ⟨program.toNat, range⟩ _
  · exact .refl s

theorem queryStored_hall (program : Word) (s : Hall) : (queryStored program s).hall = s := by
  unfold queryStored
  split
  · rfl
  split <;> rfl

theorem testRender_hall (program tool offset : Word) (s : Hall) : (testRender program tool offset s).hall = s := by
  unfold testRender
  split
  · rfl
  split
  · rfl
  split
  · rfl
  split
  · rfl
  split
  · rfl
  split <;> rfl

/-! ### Requests and the event of the life unit -/

theorem replaceIf_effect {auto : Bool} {cls client : Nat} {tag : Word} {s : Hall}
    (live : ∃ slot r, s.records.get slot = some r ∧ r.cls = cls) : Effect s (replaceIf auto cls client tag s).1 := by
  have replaced : Effect s (replace cls client tag s).1 := by
    unfold replace
    split
    · exact .refl s
    · rename_i n free
      have served := serveByClass_effect (t := replacementTicket cls client tag s) free rfl (.inr live)
      dsimp only
      split <;> exact served
  unfold replaceIf
  split
  · dsimp only
    split
    · exact replaced.trans (.setFlag _ _)
    · exact replaced
  · exact .refl s

theorem usableFall_records (cls : Nat) (s : Hall) : (usableFall cls s).1.records = s.records := by
  unfold usableFall
  split
  · rfl
  · dsimp only
    split <;> rfl

theorem chargeRecord_effect {client : Nat} {tag : Word} {pocket entry : Nat} {b : Binding} {r : Record} {s : Hall}
    (hb : (entry, b) ∈ s.bindings) (hr : s.records.get b.slot = some r) (consumed : Nat) :
    Effect s (chargeRecord client tag pocket b.slot r consumed s).hall := by
  unfold chargeRecord
  split
  · exact .refl s
  rename_i alive
  split
  · unfold endLife
    dsimp only
    refine Effect.trans (.wearOut s entry b r { r with life := 0, warned := true, ended := true } hb hr rfl rfl rfl rfl
      (by omega) rfl) (replaceIf_effect ⟨b.slot, { r with life := 0, warned := true, ended := true }, ?_, rfl⟩)
    rw [usableFall_records]
    exact get_put_self ..
  · rename_i left
    unfold chargeLife
    dsimp only
    split
    · exact .charge s entry b r _ hb hr rfl rfl rfl rfl (by omega) (by simp only; omega)
    · exact .charge s entry b r _ hb hr rfl rfl rfl rfl (by omega) (by simp only; omega)

theorem reportUsage_effect (client : Nat) (tag : Word) (pocket amount : Word) (s : Hall) :
    Effect s (reportUsage client tag pocket amount s).hall := by
  unfold reportUsage
  split
  · exact .refl s
  split
  · exact .refl s
  split
  · exact .refl s
  rename_i entry b found
  split
  · exact .refl s
  · rename_i r hr
    exact chargeRecord_effect (findBinding_some found).1 hr _

theorem ageMeasurement_alike (r : Record) :
    r.ageMeasurement.tool = r.tool ∧ r.ageMeasurement.cls = r.cls ∧ r.ageMeasurement.status = r.status ∧
      r.ageMeasurement.life = r.life ∧ r.ageMeasurement.location = r.location := by
  unfold Record.ageMeasurement
  split <;> simp

theorem ageRecord_effect (slot : Nat) (s : Hall) : Effect s (ageRecord slot s).1 := by
  unfold ageRecord
  split
  · exact .refl s
  rename_i r0 hr
  obtain ⟨tool, cls, status, life, location⟩ := ageMeasurement_alike r0
  have aged (r : Record) (h : r0.ageMeasurement.tool = r.tool ∧ r0.ageMeasurement.cls = r.cls ∧
      r0.ageMeasurement.status = r.status ∧ r0.ageMeasurement.life = r.life ∧
      r0.ageMeasurement.location = r.location) : Effect s (s.putRecord slot r) :=
    .record s slot r0 r hr (.of_eq (by rw [← tool, h.1]) (by rw [← cls, h.2.1]) (by rw [← status, h.2.2.1])
      (by rw [← life, h.2.2.2.1]) (by rw [← location, h.2.2.2.2]))
  have same := aged r0.ageMeasurement ⟨rfl, rfl, rfl, rfl, rfl⟩
  dsimp only
  split
  · rename_i ready
    split
    · exact .hold s slot r0 _ .stale hr (status ▸ ready) tool cls life
    · exact same
  · unfold ageOut
    dsimp only
    split
    · refine Effect.trans ?_ (.setFlag _ _)
      exact aged _ ⟨rfl, rfl, rfl, rfl, rfl⟩
    · exact aged _ ⟨rfl, rfl, rfl, rfl, rfl⟩
  · exact same

theorem ageRecords_effect (slots : List Nat) (s : Hall) : Effect s (ageRecords slots s).1 := by
  induction slots generalizing s with
  | nil => exact .refl s
  | cons slot rest ih => exact (ageRecord_effect slot s).trans (ih _)

theorem sweepEvent_effect (s : Hall) : Effect s (sweepEvent s).1 :=
  ((Effect.sweepTimer _ s).trans (ageRecords_effect _ _)).trans (.ageTickets _)

/-! ### The port's own requests -/

theorem setEntry_effect (client : Word) (form : ClientForm) (s : Hall) : Effect s (setEntry client form s).hall := by
  unfold setEntry
  split
  · exact .refl s
  rename_i high
  split
  · exact .refl s
  rename_i low
  split
  · exact .refl s
  rename_i e _
  have write (free : ∀ x, e.station = some x → stationTaken client.toNat x s = false)
      (idle : ¬(decide (e.role ≠ (s.client client.toNat).role ∨ e.station ≠ (s.client client.toNat).station) &&
        clientHasWork client.toNat s) = true) : Effect s (s.putClient client.toNat e) := by
    refine .client s client.toNat e (by omega) free ?_
    simp only [Bool.and_eq_true, decide_eq_true_eq, not_and, Bool.not_eq_true] at idle
    by_cases h : e.role = (s.client client.toNat).role ∧ e.station = (s.client client.toNat).station
    · exact .inl h
    · exact .inr (idle (by tauto))
  dsimp only
  split
  · rename_i x hx
    split
    · exact .refl s
    rename_i free
    split
    · exact .refl s
    · rename_i idle
      exact write (fun y hy => by simp_all) idle
  · rename_i none_
    split
    · exact .refl s
    split
    · exact .refl s
    · rename_i idle
      exact write (fun y hy => by simp_all) idle

theorem queryEntryOf_hall (sender : Nat) (client : Word) (s : Hall) : (queryEntryOf sender client s).hall = s := by
  unfold queryEntryOf
  split
  · rfl
  split <;> rfl

/-! ### All of them -/

/-- The owning unit's part of any request is an effect. -/
theorem handle_effect (i : Instr) (s : Hall) : Effect s (handle i s).hall := by
  cases i
  case enrol h tool cls loc life => exact enrolTool_effect tool cls loc life s
  case retire h tool => exact retireTool_effect tool s
  case hold h tool => exact holdTool_effect tool s
  case releaseHold h tool regrind => exact releaseHeld_effect tool regrind s
  case moveBin h tool loc => exact moveTool_effect tool loc s
  case queryTool h tool => exact .of_eq (queryRecord_hall tool s)
  case findClass h cls start => exact .of_eq (findInClass_hall cls start s)
  case defineClass h cls shape policy => exact defineEntry_effect cls shape policy s
  case queryClass h cls => exact .of_eq (queryEntry_hall cls s)
  case deleteClass h cls => exact deleteEntry_effect cls s
  case stats h cls clear => exact classStats_effect cls clear s
  case calGeometry h station values => exact writeGeometry_effect _ station values s
  case calCorrection h station values => exact writeCorrection_effect _ station values s
  case configureStation h station window => exact configureGaugeWindow_effect station window s
  case queryStation h station => exact .of_eq (queryStationImage_hall station s)
  case holdByCalibration h station generation => exact holdCalibration_effect station generation s
  case gaugeBegin h tool => exact beginSession_effect _ tool s
  case gaugePoint h z x => exact takePoint_effect _ z x s
  case gaugeEnd h temperature => exact endSession_effect _ temperature s
  case gaugeAbort h => exact abortByRequest_effect _ s
  case issue h form => exact issueTicket_effect _ _ form s
  case cancel h ticket tag => exact cancelByNumber_effect _ ticket tag s
  case returnTool h tool loc => exact returnToCrib_effect tool loc s
  case setIssueMode h on => exact changeMode_effect on s
  case queryIssue h cls start => exact .of_eq (queryPool_hall cls start s)
  case queryTicket h ticket => exact .of_eq (queryTicketImage_hall ticket s)
  case configureChannel h channel enabled openWindow takeWindow =>
    exact configureDrawer_effect channel enabled openWindow takeWindow s
  case clearChannel h channel => exact clearDrawer_effect channel s
  case handover h ticket tag => exact handOver_effect ticket tag s
  case queryChannel h channel start => exact .of_eq (queryDrawer_hall channel start s)
  case queryHandover h start => exact .of_eq (queryHandoverList_hall start s)
  case mount h tool pocket => exact mountTool_effect _ tool pocket s
  case dismount h pocket => exact dismountPocket_effect _ pocket s
  case protect h pocket => exact setProtection_effect _ pocket true s
  case unprotect h pocket => exact setProtection_effect _ pocket false s
  case adjust h tool lengthDelta radiusDelta => exact adjustTool_effect tool lengthDelta radiusDelta s
  case resendHandoff h machine pocket => exact .of_eq (resendHandoffBlock_hall _ machine pocket s)
  case queryPocket h machine pocket => exact .of_eq (queryMagazine_hall _ machine pocket s)
  case storeProgram h program bytes => exact storeSteps_effect program bytes s
  case queryProgram h program => exact .of_eq (queryStored_hall program s)
  case renderTest h program tool offset => exact .of_eq (testRender_hall program tool offset s)
  case usage h pocket amount => exact reportUsage_effect _ _ pocket amount s
  case setSweep h period => exact .sweepTimer _ s
  case setClient h client form => exact setEntry_effect client form s
  case queryClient h client => exact .of_eq (queryEntryOf_hall _ client s)
  case attention h choice => exact .config s s.mode s.sweep _ s.enables s.startKind s.startCause s.freeIndex
  case setEnables h enables => exact .config s s.mode s.sweep s.flags enables s.startKind s.startCause s.freeIndex
  case wipe h => exact .wipe s
  all_goals exact .refl s

theorem second_effect (s : Hall) : Effect s (countSecond s) :=
  (Effect.banks s (mapBank Station.second s.stations) (mapBank Channel.second s.channels)
    (fun n => by
      rw [mapBank_get]
      exact ⟨rfl, by cases h : (s.stations.get n).session <;> simp [Station.second, h], rfl, rfl, id, id⟩)
    (fun c => by rw [mapBank_get]; exact ⟨rfl, rfl, .inl rfl⟩)).trans
  (.config _ s.mode { s.sweep with count := s.sweep.count + 1 } s.flags s.enables s.startKind s.startCause
    (s.freeIndex + 1))

theorem setFilters_effect (levels : Vector DrawerLevel 16) (s : Hall) : Effect s (setFilters levels s) :=
  .banks s s.stations _ (fun _ => .refl _) fun c => by
    have : (Vector.ofFn fun d => { s.channel d with filter := levels.get d }).get c =
        { s.channels.get c with filter := levels.get c } := by
      simp [Vector.get_eq_getElem, Hall.channel]
    rw [this]
    exact ⟨rfl, rfl, .inl rfl⟩

/-- A law that every effect keeps is kept by every unit. -/
theorem KeptByUnits.of_effect {P : Hall → Prop} (keeps : ∀ {s t}, Effect s t → P s → P t) : KeptByUnits P where
  overrun s := keeps (.setFlag _ s)
  request i s := keeps (handle_effect i s)
  opened c s := keeps (openedEvent_effect c s)
  closed c s := keeps (closedEvent_effect c s)
  openExpiry c s := keeps (openExpiry_effect c s)
  takeExpiry c s := keeps (takeExpiry_effect c s)
  gaugeExpiry n s := keeps (gaugeExpiry_effect n s)
  sweep s := keeps (sweepEvent_effect s)
  second s := keeps (second_effect s)
  warm cause s := keeps (.warm s cause)
  filters levels s := keeps (setFilters_effect levels s)
  cold levels s := keeps (.cold s levels)

end Sys2Proof.Machine

/-! ## Keys: canonical tables, the tool-number index and the capacities -/

namespace Sys2Proof.Machine

/-! ### Entries of a table -/

theorem mem_put {α : Type} {t : Table α} {n : Nat} {v : α} {e : Nat × α} (h : e ∈ t.put n v) : e = (n, v) ∨ e ∈ t := by
  induction t with
  | nil => exact .inl (by simpa [Table.put] using h)
  | cons x rest ih =>
    obtain ⟨k, w⟩ := x
    unfold Table.put at h
    split at h
    · exact (List.mem_cons.mp h)
    · split at h
      · exact (List.mem_cons.mp h).imp id (List.mem_cons_of_mem _)
      · rcases List.mem_cons.mp h with rfl | h
        · exact .inr List.mem_cons_self
        · exact (ih h).imp id (List.mem_cons_of_mem _)

/-- Writing a list keeps empty lists unlisted. -/
theorem listed_putList {t : Table (List Nat)} (n : Nat) (l : List Nat) (h : ∀ e ∈ t, e.2 ≠ []) :
    ∀ e ∈ t.putList n l, e.2 ≠ [] := by
  intro e he
  cases l with
  | nil => exact h e (List.mem_of_mem_filter he)
  | cons x xs =>
    rcases mem_put he with rfl | he
    · simp
    · exact h e he

/-- In a table of canonical form what is listed is found. -/
theorem get_of_mem {α : Type} {t : Table α} {n : Nat} {v : α} (h : t.wf) (mem : (n, v) ∈ t) : t.get n = some v := by
  induction t with
  | nil => cases mem
  | cons x rest ih =>
    obtain ⟨k, w⟩ := x
    obtain ⟨hk, hr⟩ := List.pairwise_cons.mp h
    unfold Table.get
    rcases List.mem_cons.mp mem with e | mem
    · cases e; simp
    · have : k < n := hk _ mem
      rw [if_neg (by omega)]
      exact ih hr mem

theorem get_eq_some_iff {α : Type} {t : Table α} {n : Nat} {v : α} (h : t.wf) : t.get n = some v ↔ (n, v) ∈ t :=
  ⟨mem_of_get t n v, get_of_mem h⟩

/-- What holds of every listed entry holds of every key that is found. -/
theorem forall_entry_iff {α : Type} {t : Table α} (h : t.wf) {p : Nat → α → Prop} :
    (∀ e ∈ t, p e.1 e.2) ↔ ∀ n v, t.get n = some v → p n v :=
  ⟨fun all n v hv => all (n, v) (mem_of_get t n v hv), fun all e he => all e.1 e.2 (get_of_mem h he)⟩

theorem listed_of_mem {α : Type} {t : Table α} {n : Nat} {v : α} (mem : (n, v) ∈ t) : (t.get n).isSome = true :=
  get_isSome_of_mem t (n, v) mem

/-! ### The canonical form after one write -/

namespace TablesLaw

variable {s : Hall}

theorem putRecord (h : TablesLaw s) (slot : Nat) (r : Record) : TablesLaw (s.putRecord slot r) :=
  { h with records := wf_put _ _ _ h.records }

theorem putClass (h : TablesLaw s) (cls : Nat) (c : ClassEntry) : TablesLaw (s.putClass cls c) :=
  { h with classes := wf_put _ _ _ h.classes }

theorem putTicket (h : TablesLaw s) (n : Nat) (t : Ticket) : TablesLaw (s.putTicket n t) :=
  { h with tickets := wf_put _ _ _ h.tickets }

theorem freeTicket (h : TablesLaw s) (n : Nat) : TablesLaw (s.freeTicket n) :=
  { h with tickets := wf_del _ _ h.tickets }

theorem putChain (h : TablesLaw s) (cls : Nat) (l : List Nat) :
    TablesLaw { s with chains := s.chains.putList cls l } :=
  { h with chains := wf_putList _ _ _ h.chains, chainsListed := listed_putList _ _ h.chainsListed }

theorem putWaitQueue (h : TablesLaw s) (cls : Nat) (l : List Nat) :
    TablesLaw { s with waitQueues := s.waitQueues.putList cls l } :=
  { h with waitQueues := wf_putList _ _ _ h.waitQueues, waitQueuesListed := listed_putList _ _ h.waitQueuesListed }

theorem freeRecord (h : TablesLaw s) (slot tool : Nat) : TablesLaw (freeRecord slot tool s) :=
  { h with records := wf_del _ _ h.records, index := wf_del _ _ h.index }

theorem putClient (h : TablesLaw s) (n : Nat) (e : ClientEntry) : TablesLaw (s.putClient n e) := by
  have written (ne : e ≠ .none) : TablesLaw { s with clients := s.clients.put n e } :=
    { h with
      clients := wf_put _ _ _ h.clients
      clientsListed := fun x hx => by
        rcases mem_put hx with rfl | hx
        · exact ne
        · exact h.clientsListed x hx }
  unfold Hall.putClient
  split
  · exact { h with
      clients := wf_del _ _ h.clients
      clientsListed := fun x hx => h.clientsListed x (List.mem_of_mem_filter hx) }
  · rename_i ne
    exact written (fun heq => ne heq)

end TablesLaw

/-! ### Operations that add and take away no key -/

/-- The tool number in a slot. -/
def Hall.toolAt (s : Hall) (slot : Nat) : Option Nat := (s.records.get slot).map Record.tool

theorem toolAt_of_get {s : Hall} {slot : Nat} {r r' : Record} (h : s.records.get slot = some r)
    (tool : r'.tool = r.tool) : s.toolAt slot = some r'.tool := by simp [Hall.toolAt, h, tool]

/-- An operation that keeps the slots with their tool numbers, and adds no ticket, binding or program outside the part's
tables. -/
structure KeepsKeys (s t : Hall) : Prop where
  tables : TablesLaw s → TablesLaw t
  index : t.index = s.index
  tools : ∀ slot, t.toolAt slot = s.toolAt slot
  tickets : ∀ n, (t.tickets.get n).isSome = true → n < 128 ∨ (s.tickets.get n).isSome = true
  bindings : ∀ e, (t.bindings.get e).isSome = true → e < 1024 ∨ (s.bindings.get e).isSome = true
  programs : ∀ p, (t.programs.get p).isSome = true → p < 16 ∨ (s.programs.get p).isSome = true

namespace KeepsKeys

variable {s t u : Hall}

theorem refl (s : Hall) : KeepsKeys s s := ⟨id, rfl, fun _ => rfl, fun _ => .inr, fun _ => .inr, fun _ => .inr⟩

/-- A record is rewritten with its tool number. -/
theorem putRecord (k : KeepsKeys s t) {slot : Nat} {r : Record} (hr : s.toolAt slot = some r.tool) :
    KeepsKeys s (t.putRecord slot r) :=
  { k with
    tables := fun law => (k.tables law).putRecord slot r
    tools := fun x => by
      rw [← k.tools x] at *
      rw [← k.tools slot] at hr
      simp only [Hall.toolAt, putRecord_records, get_put] at *
      split <;> simp_all }

theorem putClass (k : KeepsKeys s t) (cls : Nat) (c : ClassEntry) : KeepsKeys s (t.putClass cls c) :=
  { k with tables := fun law => (k.tables law).putClass cls c }

theorem putTicket (k : KeepsKeys s t) {n : Nat} (x : Ticket) (hn : n < 128 ∨ (s.tickets.get n).isSome = true) :
    KeepsKeys s (t.putTicket n x) :=
  { k with
    tables := fun law => (k.tables law).putTicket n x
    tickets := fun m hm => by
      simp only [putTicket_tickets, get_put] at hm
      split at hm
      · subst_vars; exact hn
      · exact k.tickets m hm }

theorem freeTicket (k : KeepsKeys s t) (n : Nat) : KeepsKeys s (t.freeTicket n) :=
  { k with
    tables := fun law => (k.tables law).freeTicket n
    tickets := fun m hm => by
      simp only [freeTicket_tickets, get_del] at hm
      split at hm
      · cases hm
      · exact k.tickets m hm }

theorem leaveChain (k : KeepsKeys s t) (slot cls : Nat) : KeepsKeys s (leaveChain slot cls t) :=
  { k with tables := fun law => (k.tables law).putChain cls _ }

theorem joinChain (k : KeepsKeys s t) (slot : Nat) (r : Record) : KeepsKeys s (joinChain slot r t) :=
  { k with tables := fun law => (k.tables law).putChain r.cls _ }

theorem joinWaitQueue (k : KeepsKeys s t) (n : Nat) (x : Ticket) : KeepsKeys s (joinWaitQueue n x t) :=
  { k with tables := fun law => (k.tables law).putWaitQueue x.cls _ }

theorem leaveWaitQueue (k : KeepsKeys s t) (n cls : Nat) : KeepsKeys s (leaveWaitQueue n cls t) :=
  { k with tables := fun law => (k.tables law).putWaitQueue cls _ }

/-- What holds no key: stations, channels, the handover list, the mode, the sweep timer, the flags and the start
record. -/
theorem unkeyed (k : KeepsKeys s t) (stations : Vector Station 4) (channels : Vector Channel 16) (handover : List Nat)
    (mode : IssueMode) (sweep : SweepTimer) (flags enables : BitVec 7) (startKind : StartKind) (startCause : StartCause)
    (freeIndex : Nat) :
    KeepsKeys s { t with
      stations, channels, handover, mode, sweep, flags, enables, startKind, startCause, freeIndex } :=
  { k with tables := fun law => { k.tables law with } }

theorem setStation (k : KeepsKeys s t) (n : Fin 4) (x : Station) : KeepsKeys s (t.setStation n x) :=
  k.unkeyed _ t.channels t.handover t.mode t.sweep t.flags t.enables t.startKind t.startCause t.freeIndex

theorem setChannel (k : KeepsKeys s t) (c : Fin 16) (x : Channel) : KeepsKeys s (t.setChannel c x) :=
  k.unkeyed t.stations _ t.handover t.mode t.sweep t.flags t.enables t.startKind t.startCause t.freeIndex

theorem handover (k : KeepsKeys s t) (l : List Nat) : KeepsKeys s { t with handover := l } :=
  k.unkeyed t.stations t.channels l t.mode t.sweep t.flags t.enables t.startKind t.startCause t.freeIndex

theorem setFlag (k : KeepsKeys s t) (f : Flag) : KeepsKeys s (setFlag f t) :=
  k.unkeyed t.stations t.channels t.handover t.mode t.sweep _ t.enables t.startKind t.startCause t.freeIndex

theorem drainCheck (k : KeepsKeys s t) : KeepsKeys s (drainCheck t) := by
  unfold Machine.drainCheck
  split
  · split
    · exact k.unkeyed t.stations t.channels t.handover .offline t.sweep t.flags t.enables t.startKind t.startCause
        t.freeIndex
    · exact k
  · exact k

/-! The shared operations -/

theorem usableRise (k : KeepsKeys s t) (cls : Nat) : KeepsKeys s (usableRise cls t) := by
  unfold Machine.usableRise
  split
  · exact k
  · exact k.putClass _ _

theorem usableFall (k : KeepsKeys s t) (cls : Nat) : KeepsKeys s (usableFall cls t).1 := by
  unfold Machine.usableFall
  split
  · exact k
  dsimp only
  split
  · exact (k.putClass _ _).setFlag _
  · exact k.putClass _ _

theorem countIssue (k : KeepsKeys s t) (cls : Nat) : KeepsKeys s (countIssue cls t) := by
  unfold Machine.countIssue
  split
  · exact k
  · exact k.putClass _ _

theorem holdReady (k : KeepsKeys s t) {slot : Nat} {r : Record} (reason : HoldReason)
    (hr : s.toolAt slot = some r.tool) : KeepsKeys s (holdReady slot r reason t).1 :=
  KeepsKeys.usableFall (KeepsKeys.putRecord (r := { r with status := .held reason }) (k.leaveChain slot r.cls) hr) _

theorem startCycle (k : KeepsKeys s t) (c : Fin 16) : KeepsKeys s (startCycle c t) := by
  unfold Machine.startCycle
  split
  · rename_i n _ _ _ _
    dsimp only
    split
    · rename_i x hx
      exact (k.setChannel _ _).putTicket _ (k.tickets n (by rw [show t.tickets.get n = some x from hx]; rfl))
    · exact k.setChannel _ _
  · exact k

theorem endCycle (k : KeepsKeys s t) (n : Nat) (c : Fin 16) : KeepsKeys s (endCycle n c t) :=
  (k.setChannel _ _).setChannel _ _

theorem moveOn (k : KeepsKeys s t) (c : Fin 16) : KeepsKeys s (moveOn c t) :=
  ((k.setChannel _ _).startCycle _).drainCheck

theorem placeWithDrawer (k : KeepsKeys s t) (n : Nat) (x : Ticket) (location : Location) :
    KeepsKeys s (placeWithDrawer n x location t).1 := by
  unfold Machine.placeWithDrawer
  split
  · split
    · exact (k.setChannel _ _).startCycle _
    · exact k.handover _
  · exact k.handover _

theorem promise (k : KeepsKeys s t) {n slot : Nat} {r : Record} (x : Ticket)
    (hn : n < 128 ∨ (s.tickets.get n).isSome = true) (hr : s.toolAt slot = some r.tool) :
    KeepsKeys s (promise n x slot r t).1 := by
  unfold Machine.promise
  refine (KeepsKeys.putTicket ?_ _ hn).placeWithDrawer _ _ _
  have taken := KeepsKeys.putRecord (r := { r with status := .promised }) (k.leaveChain slot r.cls) hr
  split
  · exact taken.leaveWaitQueue _ _
  · exact taken

theorem offer (k : KeepsKeys s t) (slot : Nat) : KeepsKeys s (offer slot t).hall := by
  unfold Machine.offer
  split
  · rename_i r _ hr
    split
    · rename_i n x met
      exact k.promise x (k.tickets n (by simp [(firstMet_mem met).2]))
        (by rw [← k.tools slot]; exact toolAt_of_get hr rfl)
    · exact k
  · exact k

theorem enterReady (k : KeepsKeys s t) {slot : Nat} {r : Record} (wasUsable : Bool)
    (hr : s.toolAt slot = some r.tool) : KeepsKeys s (enterReady slot r wasUsable t).hall := by
  unfold Machine.enterReady
  refine KeepsKeys.offer ?_ slot
  have joined := KeepsKeys.joinChain (KeepsKeys.putRecord (r := { r with status := .ready }) k hr) slot
    { r with status := .ready }
  split
  · exact joined
  · exact joined.usableRise _

theorem returnPromise (k : KeepsKeys s t) (slot : Nat) : KeepsKeys s (returnPromise slot t).hall := by
  unfold Machine.returnPromise
  split
  · rename_i r hr
    exact k.enterReady _ (by rw [← k.tools slot]; exact toolAt_of_get hr rfl)
  · exact k

theorem complete (k : KeepsKeys s t) (n : Nat) (x : Ticket) : KeepsKeys s (complete n x t).1 := by
  unfold Machine.complete
  split
  · exact k
  split
  · exact k.freeTicket n
  · rename_i slot _ _ r hr
    refine KeepsKeys.freeTicket (KeepsKeys.countIssue (KeepsKeys.putRecord k ?_) _) n
    rw [← k.tools slot]
    exact toolAt_of_get hr rfl

theorem offerEach (k : KeepsKeys s t) (slots : List Nat) : KeepsKeys s (offerEach slots t).1 := by
  induction slots generalizing t with
  | nil => exact k
  | cons slot rest ih => exact ih (k.offer slot)

theorem ageTicket (k : KeepsKeys s t) (n : Nat) : KeepsKeys s (ageTicket n t).1 := by
  unfold Machine.ageTicket
  split
  · exact k
  rename_i x hx
  have hn := k.tickets n (by simp [hx])
  dsimp only
  split
  · exact k.putTicket _ hn
  split
  · exact (k.leaveWaitQueue _ _).freeTicket n
  split
  · exact KeepsKeys.joinWaitQueue ((k.leaveWaitQueue _ _).putTicket _ hn) _ _
  · exact k.putTicket _ hn

theorem ageTickets (k : KeepsKeys s t) (l : List Nat) : KeepsKeys s (ageTickets l t).1 := by
  induction l generalizing t with
  | nil => exact k
  | cons n rest ih => exact ih (k.ageTicket n)

theorem takeStarts (k : KeepsKeys s t) (c : Fin 16) : KeepsKeys s (takeStarts c t) := by
  unfold Machine.takeStarts
  dsimp only
  generalize hu : t.setChannel c _ = u
  have k : KeepsKeys s u := hu ▸ k.setChannel c _
  split
  · exact k
  split
  · exact k
  rename_i n _ _ _ x hx
  have opened := k.putTicket x.openDrawer (k.tickets n (by simp [hx]))
  split
  · exact opened
  rename_i slot _
  split
  · exact opened
  · rename_i r hr
    exact opened.putRecord (by rw [← k.tools slot]; exact toolAt_of_get hr rfl)

theorem putBinding (k : KeepsKeys s t) {e : Nat} (b : Binding) (he : e < 1024 ∨ (s.bindings.get e).isSome = true) :
    KeepsKeys s { t with bindings := t.bindings.put e b } :=
  { k with
    tables := fun law => { k.tables law with bindings := wf_put _ _ _ (k.tables law).bindings }
    bindings := fun x hx => by
      simp only [get_put] at hx
      split at hx
      · subst_vars; exact he
      · exact k.bindings x hx }

theorem delBinding (k : KeepsKeys s t) (e : Nat) : KeepsKeys s { t with bindings := t.bindings.del e } :=
  { k with
    tables := fun law => { k.tables law with bindings := wf_del _ _ (k.tables law).bindings }
    bindings := fun x hx => by
      simp only [get_del] at hx
      split at hx
      · cases hx
      · exact k.bindings x hx }

theorem putProgram (k : KeepsKeys s t) {p : Nat} (x : Program) (hp : p < 16) :
    KeepsKeys s { t with programs := t.programs.put p x } :=
  { k with
    tables := fun law => { k.tables law with programs := wf_put _ _ _ (k.tables law).programs }
    programs := fun q hq => by
      simp only [get_put] at hq
      split at hq
      · subst_vars; exact .inl hp
      · exact k.programs q hq }

theorem delClass (k : KeepsKeys s t) (cls : Nat) : KeepsKeys s { t with classes := t.classes.del cls } :=
  { k with tables := fun law => { k.tables law with classes := wf_del _ _ (k.tables law).classes } }

theorem putClient (k : KeepsKeys s t) (n : Nat) (e : ClientEntry) : KeepsKeys s (t.putClient n e) where
  tables law := (k.tables law).putClient n e
  index := by unfold Hall.putClient; split <;> exact k.index
  tools := by unfold Hall.putClient; split <;> exact k.tools
  tickets := by unfold Hall.putClient; split <;> exact k.tickets
  bindings := by unfold Hall.putClient; split <;> exact k.bindings
  programs := by unfold Hall.putClient; split <;> exact k.programs

end KeepsKeys

end Sys2Proof.Machine

namespace Sys2Proof.Machine

/-! ### What an operation keeps of the tables -/

/-- The laws of the tables, of the index and of the capacities go over from `s` to `t`. -/
structure KeepsTables (s t : Hall) : Prop where
  tables : TablesLaw s → TablesLaw t
  index : TablesLaw s → IndexLaw s → IndexLaw t
  capacity : CapacityLaw s → CapacityLaw t

theorem indexLaw_iff (s : Hall) : IndexLaw s ↔ ∀ tool slot, s.index.get tool = some slot ↔ s.toolAt slot = some tool := by
  simp [IndexLaw, Hall.toolAt]

theorem toolAt_isSome (s : Hall) (slot : Nat) : (s.toolAt slot).isSome = (s.records.get slot).isSome := by
  simp [Hall.toolAt]

namespace KeepsTables

variable {s t u : Hall}

theorem trans (h : KeepsTables s t) (k : KeepsTables t u) : KeepsTables s u :=
  ⟨fun a => k.tables (h.tables a), fun a b => k.index (h.tables a) (h.index a b), fun a => k.capacity (h.capacity a)⟩

theorem of_keys (k : KeepsKeys s t) : KeepsTables s t where
  tables := k.tables
  index _ law := by
    rw [indexLaw_iff] at law ⊢
    intro tool slot
    rw [k.index, k.tools, law]
  capacity law :=
    { records := fun slot h => law.records slot (by rwa [← toolAt_isSome, ← k.tools, toolAt_isSome])
      tickets := fun n h => (k.tickets n h).elim id (law.tickets n)
      bindings := fun e h => (k.bindings e h).elim id (law.bindings e)
      programs := fun p h => (k.programs p h).elim id (law.programs p) }

theorem enrol {slot : Nat} {r : Record} (hs : s.records.lowestFree Config.recordSlots = some slot)
    (free : s.index.get r.tool = none) :
    KeepsTables s { s with records := s.records.put slot r, index := s.index.put r.tool slot } where
  tables law := { law with records := wf_put _ _ _ law.records, index := wf_put _ _ _ law.index }
  index tables law := by
    obtain ⟨-, vacant⟩ := lowestFree_spec _ _ _ tables.records hs
    intro tool x
    have old := law tool x
    simp only [get_put]
    by_cases htool : r.tool = tool
    · subst htool
      rw [free] at old
      by_cases hx : slot = x
      · simp [hx]
      · simpa [hx] using old
    · by_cases hx : slot = x
      · subst hx
        simp [htool, old, vacant]
      · simp [htool, hx, old]
  capacity law :=
    { law with
      records := fun x hx => by
        simp only [get_put] at hx
        split at hx
        · subst_vars
          unfold Table.lowestFree at hs
          split at hs
          · cases hs; assumption
          · cases hs
        · exact law.records x hx }

theorem freeRecord {slot tool : Nat} (hr : s.toolAt slot = some tool) :
    KeepsTables s (freeRecord slot tool s) where
  tables law := law.freeRecord slot tool
  index _ law := by
    rw [indexLaw_iff] at law ⊢
    intro number x
    have old := law number x
    have own := law tool slot
    simp only [Hall.toolAt, freeRecord_records, freeRecord_index, get_del] at hr old own ⊢
    by_cases htool : tool = number
    · subst htool
      by_cases hx : slot = x
      · simp [hx]
      · have other : ¬(s.records.get x).map Record.tool = some tool := fun e => hx (by
          have := old.mpr e
          rw [own.mpr hr] at this
          exact Option.some.inj this)
        simp [hx, other]
    · by_cases hx : slot = x
      · subst hx
        simp [htool, old, hr]
      · simp [htool, hx, old]
  capacity law :=
    { law with
      records := fun x hx => by
        simp only [freeRecord_records, get_del] at hx
        split at hx
        · cases hx
        · exact law.records x hx }

theorem wipe (s : Hall) : KeepsTables s (wipeHall s).hall := by
  unfold wipeHall
  split
  · exact of_keys (.refl s)
  exact
    { tables := fun law => { law with
        records := wf_nil
        index := wf_nil
        chains := wf_nil
        classes := wf_mapValues _ _ law.classes
        tickets := wf_nil
        waitQueues := wf_nil
        bindings := wf_nil
        chainsListed := by simp [accept]
        waitQueuesListed := by simp [accept] }
      index := fun _ _ tool slot => by simp [accept]
      capacity := fun law => { law with
        records := by simp [accept]
        tickets := by simp [accept]
        bindings := by simp [accept] } }

theorem cold (s : Hall) (levels : Vector DrawerLevel 16) : KeepsTables s (coldStart levels s) where
  tables _ :=
    { records := wf_nil
      index := wf_nil
      chains := wf_nil
      classes := wf_nil
      tickets := wf_nil
      waitQueues := wf_nil
      bindings := wf_nil
      programs := wf_nil
      clients := List.pairwise_singleton _ _
      chainsListed := by simp [coldStart, Hall.cold]
      waitQueuesListed := by simp [coldStart, Hall.cold]
      clientsListed := by simp [coldStart, Hall.cold] }
  index _ _ tool slot := by simp [coldStart, Hall.cold]
  capacity _ := ⟨by simp [coldStart, Hall.cold], by simp [coldStart, Hall.cold], by simp [coldStart, Hall.cold],
    by simp [coldStart, Hall.cold]⟩

end KeepsTables

/-! ### The warm start -/

theorem settle_tool (r : Record) : r.settle.tool = r.tool := by
  unfold Record.settle
  split
  · rfl
  · split <;> rfl
  · rfl

theorem rebuildIndex_wf (l : List (Nat × Record)) : (rebuildIndex l).wf := by
  induction l with
  | nil => exact wf_nil
  | cons e rest ih => exact wf_put _ _ _ ih

/-- The rebuilt index finds the listed records by their numbers, when no number stands twice. -/
theorem rebuildIndex_get {l : List (Nat × Record)}
    (distinct : ∀ e ∈ l, ∀ f ∈ l, e.2.tool = f.2.tool → e.1 = f.1) (tool slot : Nat) :
    (rebuildIndex l).get tool = some slot ↔ ∃ r, (slot, r) ∈ l ∧ r.tool = tool := by
  induction l with
  | nil => simp [rebuildIndex]
  | cons e rest ih =>
    obtain ⟨x, rx⟩ := e
    have later := ih fun a ha b hb => distinct a (List.mem_cons_of_mem _ ha) b (List.mem_cons_of_mem _ hb)
    simp only [rebuildIndex, get_put]
    split
    · rename_i own
      constructor
      · rintro ⟨⟩; exact ⟨rx, List.mem_cons_self, own⟩
      · rintro ⟨r, mem, number⟩
        exact congrArg some (distinct (x, rx) List.mem_cons_self (slot, r) mem (own.trans number.symm))
    · rename_i other
      rw [later]
      constructor
      · rintro ⟨r, mem, number⟩
        exact ⟨r, List.mem_cons_of_mem _ mem, number⟩
      · rintro ⟨r, mem, number⟩
        rcases List.mem_cons.mp mem with e | mem
        · cases e; exact absurd number other
        · exact ⟨r, mem, number⟩

theorem rebuildChains_wf (records : Table Record) (l : List (Nat × Record)) :
    (rebuildChains records l).wf ∧ ∀ e ∈ rebuildChains records l, e.2 ≠ [] := by
  induction l with
  | nil => exact ⟨wf_nil, by simp [rebuildChains]⟩
  | cons e rest ih =>
    obtain ⟨slot, r⟩ := e
    simp only [rebuildChains]
    split
    · exact ⟨wf_putList _ _ _ ih.1, listed_putList _ _ ih.2⟩
    · exact ih

/-- The slots and tool numbers are those of the records before the start. -/
theorem warmStart_toolAt (cause : StartCause) (s : Hall) (slot : Nat) :
    (warmStart cause s).toolAt slot = s.toolAt slot := by
  simp only [Hall.toolAt, warmStart, get_mapValues, Option.map_map]
  congr 1
  funext r
  exact settle_tool r

theorem warmStart_index {s : Hall} (tables : TablesLaw s) (law : IndexLaw s) (cause : StartCause) :
    IndexLaw (warmStart cause s) := by
  have wf : (warmStart cause s).records.wf := wf_mapValues _ _ tables.records
  rw [indexLaw_iff] at law
  intro tool slot
  have numbers : ∀ e ∈ (warmStart cause s).records, s.toolAt e.1 = some e.2.tool := fun e he => by
    rw [← warmStart_toolAt cause, Hall.toolAt, get_of_mem wf he]
    rfl
  have listed := rebuildIndex_get (l := (warmStart cause s).records)
    (fun e he f hf same => by
      have found := (law e.2.tool e.1).mpr (numbers e he)
      rw [same, (law f.2.tool f.1).mpr (numbers f hf)] at found
      exact (Option.some.inj found).symm) tool slot
  change (rebuildIndex (warmStart cause s).records).get tool = some slot ↔ _
  simp only [listed, get_eq_some_iff wf]

theorem KeepsTables.warm (s : Hall) (cause : StartCause) : KeepsTables s (warmStart cause s) where
  tables law := { law with
    records := wf_mapValues _ _ law.records
    index := rebuildIndex_wf _
    chains := (rebuildChains_wf _ _).1
    classes := List.pairwise_map.mpr (law.classes.imp id)
    tickets := wf_nil
    waitQueues := wf_nil
    chainsListed := (rebuildChains_wf _ _).2
    waitQueuesListed := by simp [warmStart] }
  index tables law := warmStart_index tables law cause
  capacity law := { law with
    records := fun slot h => law.records slot (by rwa [← toolAt_isSome, ← warmStart_toolAt cause, toolAt_isSome])
    tickets := by simp [warmStart] }

/-! ### Every effect -/

theorem lowestFree_lt {α : Type} {t : Table α} {cap n : Nat} (h : t.lowestFree cap = some n) : n < cap := by
  unfold Table.lowestFree at h
  split at h
  · cases h; assumption
  · cases h

/-- Every effect keeps the tables, the index and the capacities. -/
theorem Effect.keepsTables {s t : Hall} (h : Effect s t) : KeepsTables s t := by
  induction h with
  | trans _ _ first second => exact first.trans second
  | enrol s slot tool cls life location c hc free hs =>
    exact KeepsTables.enrol (r := newRecord tool cls _ location) hs free
  | free s slot r hr status => exact .freeRecord (toolAt_of_get hr rfl)
  | freeReady s slot r hr status =>
    have left := ((KeepsKeys.refl s).leaveChain slot r.cls).usableFall r.cls
    refine (KeepsTables.of_keys left).trans (.freeRecord ?_)
    rw [left.tools]
    exact toolAt_of_get hr rfl
  | wipe s => exact .wipe s
  | warm s cause => exact .warm s cause
  | cold s levels => exact .cold s levels
  | config s mode sweep flags enables startKind startCause freeIndex =>
    exact .of_keys ((KeepsKeys.refl s).unkeyed ..)
  | program s p x => exact .of_keys ((KeepsKeys.refl s).putProgram x p.isLt)
  | client s n e => exact .of_keys ((KeepsKeys.refl s).putClient n e)
  | banks s stations channels => exact .of_keys ((KeepsKeys.refl s).unkeyed ..)
  | record s slot r r' hr alike => exact .of_keys ((KeepsKeys.refl s).putRecord (toolAt_of_get hr alike.tool))
  | hold s slot r r' reason hr _ tool => exact .of_keys ((KeepsKeys.refl s).holdReady reason (toolAt_of_get hr tool))
  | holdOut s slot r r' reason hr _ _ tool =>
    exact .of_keys (KeepsKeys.usableFall (KeepsKeys.putRecord (r := { r' with status := .held reason }) (.refl s)
      (toolAt_of_get hr tool)) _)
  | ready s slot r r' hr _ _ tool => exact .of_keys ((KeepsKeys.refl s).enterReady _ (toolAt_of_get hr tool))
  | offer s slot => exact .of_keys ((KeepsKeys.refl s).offer slot)
  | offers s => exact .of_keys ((KeepsKeys.refl s).offerEach _)
  | defineClass s cls c | redefineClass s cls _ c | counters s cls c =>
    exact .of_keys ((KeepsKeys.refl s).putClass _ _)
  | deleteClass s cls => exact .of_keys ((KeepsKeys.refl s).delClass cls)
  | calibrate s n | beginMaster s n | closeMaster s n => exact .of_keys ((KeepsKeys.refl s).setStation n _)
  | beginLoose s n slot r resume _ hr =>
    exact .of_keys (KeepsKeys.setStation (KeepsKeys.putRecord (r := { r with status := .gauging resume }) (.refl s)
      (toolAt_of_get hr rfl)) n _)
  | beginReady s n slot r _ hr =>
    exact .of_keys (KeepsKeys.setStation (KeepsKeys.putRecord (r := { r with status := .gauging .ready })
      (((KeepsKeys.refl s).leaveChain slot r.cls).usableFall _) (toolAt_of_get hr rfl)) n _)
  | closeLoose s n x slot r r' state _ _ hr tool =>
    exact .of_keys (KeepsKeys.setStation (KeepsKeys.putRecord (.refl s) (toolAt_of_get hr tool)) n _)
  | closeReady s n x slot r r' state _ _ hr tool =>
    exact .of_keys (((KeepsKeys.refl s).enterReady _ (toolAt_of_get hr tool)).setStation n _)
  | wait s n t free =>
    exact .of_keys (KeepsKeys.joinWaitQueue ((KeepsKeys.refl s).putTicket t (.inl (lowestFree_lt free))) n t)
  | promiseNew s n t slot r free hr =>
    exact .of_keys ((KeepsKeys.refl s).promise _ (.inl (lowestFree_lt free)) (toolAt_of_get hr rfl))
  | dropWaiting s n t => exact .of_keys (((KeepsKeys.refl s).leaveWaitQueue n t.cls).freeTicket n)
  | withdrawQueued s n t slot c =>
    exact .of_keys (KeepsKeys.returnPromise (KeepsKeys.freeTicket ((KeepsKeys.refl s).setChannel c _) n) slot)
  | withdrawHanded s n t slot =>
    exact .of_keys (KeepsKeys.returnPromise (((KeepsKeys.refl s).handover _).freeTicket n) slot)
  | lapse s n t slot c =>
    exact .of_keys ((((KeepsKeys.refl s).endCycle n c).freeTicket n).returnPromise slot |>.moveOn c)
  | lapseStray s n t slot => exact .of_keys (((KeepsKeys.refl s).freeTicket n).returnPromise slot)
  | handOver s n t => exact .of_keys (((KeepsKeys.refl s).handover _).complete n t)
  | takeEnds s n t c => exact .of_keys ((((KeepsKeys.refl s).endCycle n c).complete n t).moveOn c)
  | cycleStray s t c _ _ ht =>
    obtain rfl | ⟨n, rfl⟩ := ht
    · exact .of_keys ((KeepsKeys.refl _).moveOn c)
    · exact .of_keys (((KeepsKeys.refl s).endCycle n c).moveOn c)
  | startCycle s c => exact .of_keys ((KeepsKeys.refl s).startCycle c)
  | takeStarts s c => exact .of_keys ((KeepsKeys.refl s).takeStarts c)
  | enable s c | disable s c => exact .of_keys ((KeepsKeys.refl s).setChannel c _)
  | ageTickets s => exact .of_keys ((KeepsKeys.refl s).ageTickets _)
  | mount s client pocket slot entry r r' hr _ tool _ _ _ _ _ _ he =>
    exact .of_keys (KeepsKeys.putBinding (KeepsKeys.putRecord (.refl s) (toolAt_of_get hr tool)) _
      (.inl (lowestFree_lt he)))
  | dismount s entry b r hb hr =>
    exact .of_keys (KeepsKeys.delBinding (KeepsKeys.putRecord (r := { r with status := .out, location := .none })
      (.refl s) (toolAt_of_get hr rfl)) entry)
  | protect s entry b mark hb => exact .of_keys ((KeepsKeys.refl s).putBinding _ (.inr (listed_of_mem hb)))
  | charge s entry b r r' hb hr tool => exact .of_keys ((KeepsKeys.refl s).putRecord (toolAt_of_get hr tool))
  | wearOut s entry b r r' hb hr tool =>
    exact .of_keys (KeepsKeys.usableFall (KeepsKeys.putRecord (.refl s) (toolAt_of_get hr tool)) _)

/-! ### The obligations -/

/-- Settles O4: every step is made of effects, and every effect keeps the canonical form. -/
theorem everyStepKeepsTablesCanonical : Obligations.EveryStepKeepsTablesCanonical := fun _ _ law ht =>
  (KeptByUnits.of_effect fun e => e.keepsTables.tables).step law ht

/-- Settles O6: the index is rebuilt or follows the records with every effect that changes them, and every new key comes
from the lowest free place of its table. -/
theorem everyStepKeepsIndexAndCapacities : Obligations.EveryStepKeepsIndexAndCapacities := by
  constructor
  · intro s t tables index ht
    have both : KeptByUnits fun s => TablesLaw s ∧ IndexLaw s :=
      .of_effect fun e law => ⟨e.keepsTables.tables law.1, e.keepsTables.index law.1 law.2⟩
    exact (both.step ⟨tables, index⟩ ht).2
  · intro s t law ht
    exact (KeptByUnits.of_effect fun e => e.keepsTables.capacity).step law ht

end Sys2Proof.Machine

/-! ## The record store's requests, one by one -/

namespace Sys2Proof.Machine

/-! ### Looking up a tool -/

/-- A tool number out of range. -/
theorem lookUpTool_range {s : Hall} {tool : Word} (h : tool.toNat < 1 ∨ 99999999 < tool.toNat) :
    s.lookUpTool tool = .error .range := by
  unfold Hall.lookUpTool maxToolNumber
  rw [if_neg (by omega)]

/-- A tool number of no live record. -/
theorem lookUpTool_unknown {s : Hall} {tool : Word} (low : 1 ≤ tool.toNat) (high : tool.toNat ≤ 99999999)
    (h : s.index.get tool.toNat = none) : s.lookUpTool tool = .error .unknownTool := by
  simp [Hall.lookUpTool, maxToolNumber, low, high, Hall.findTool, h]

/-! ### ENROL -/

theorem enrolTool_eq {s : Hall} {tool cls : Word} {loc : CribLoc} {life : Option Word} {location : Location}
    {c : ClassEntry} {slot : Nat} (t1 : 1 ≤ tool.toNat) (t2 : tool.toNat ≤ 99999999) (c1 : 1 ≤ cls.toNat)
    (c2 : cls.toNat ≤ 255) (hl : cribLocation loc = some location) (hc : s.classes.get cls.toNat = some c)
    (hi : s.index.get tool.toNat = none) (hs : s.records.lowestFree 4096 = some slot) :
    enrolTool tool cls loc life s =
      accept [natWord slot, tool, natWord (initialLife c.shape.fullLife life)]
        { s with
          records := s.records.put slot
            (newRecord tool.toNat cls.toNat (initialLife c.shape.fullLife life) location)
          index := s.index.put tool.toNat slot } := by
  simp [enrolTool, maxToolNumber, t1, t2, c1, c2, hl, hc, Table.has, hi, Config.recordSlots, hs]

/-- Settles O24. -/
theorem enrolCreatesNewRecord : Obligations.EnrolCreatesNewRecord := by
  intro h tool cls loc life location c slot s ha t1 t2 c1 c2 hl hc hi hs
  have given : initialLife c.shape.fullLife life = (match life with
      | none => c.shape.fullLife
      | some w => if w.toNat < 1 then 1 else if c.shape.fullLife < w.toNat then c.shape.fullLife else w.toNat) := by
    cases life <;> rfl
  have enrolled := enrolTool_eq (life := life) t1 t2 c1 c2 hl hc hi hs
  rw [given] at enrolled
  exact exec_reply ha ⟨rfl, rfl⟩ enrolled rfl rfl (by simp) (by decide)

/-! ### RETIRE -/

/-- Settles O25, by the record's state. -/
theorem retireFreesSlotAndNumber : Obligations.RetireFreesSlotAndNumber := by
  intro h tool s ha refused
  have answers {r : Reply} (hr : retireTool tool s.hall = r) (hn : r.notices.length ≤ 3) :
      exec (.retire h tool) s = .next (s.answered .retire h r.code r.body r.notices r.hall) :=
    exec_reply ha ⟨rfl, rfl⟩ hr rfl rfl hn (by decide)
  have refuses {code : Code} (hr : retireTool tool s.hall = refuse code s.hall) : refused code :=
    answers hr (by simp [refuse])
  refine ⟨fun range => refuses ?_, fun low high free => refuses ?_, fun slot r holds => ?_⟩
  · simp [retireTool, lookUpTool_range range]
  · simp [retireTool, lookUpTool_unknown low high free]
  have found := lookUpTool_of_holds holds
  refine ⟨fun resume status => refuses ?_, fun status => refuses ?_, fun status => ?_, fun c status hc => ?_⟩
  · simp [retireTool, found, status]
  · rcases status with status | status | status <;> simp [retireTool, found, status]
  · have freed : retireTool tool s.hall = accept (retiredBody slot r) (freeRecord slot r.tool s.hall) := by
      rcases status with status | ⟨_, status⟩ <;> simp [retireTool, found, status]
    exact answers freed (by simp [accept])
  · have freed : retireTool tool s.hall =
        ⟨freeRecord slot r.tool (usableFall r.cls (leaveChain slot r.cls s.hall)).1, .ok, retiredBody slot r,
          (usableFall r.cls (leaveChain slot r.cls s.hall)).2⟩ := by
      simp [retireTool, found, status]
    rw [usableFall_eq (s := leaveChain slot r.cls s.hall) hc] at freed
    exact answers freed ((fallNotices_length _ _).trans (by decide))

/-! ### HOLD and MOVE-BIN -/

/-- Settles O26. -/
theorem holdAndMoveBinChangeOneField : Obligations.HoldAndMoveBinChangeOneField := by
  constructor
  · intro h tool slot r s ha holds
    have found := lookUpTool_of_holds holds
    refine ⟨fun status => ?_, fun c status hc => ?_⟩
    · have held : holdTool tool s.hall = accept [1] (s.hall.putRecord slot { r with status := .held .manual }) := by
        simp only [holdTool, found, status]
        rfl
      exact exec_reply ha ⟨rfl, rfl⟩ held rfl rfl (by simp) (by decide)
    · have held : holdTool tool s.hall =
          ⟨(holdReady slot r .manual s.hall).1, .ok, [2], (holdReady slot r .manual s.hall).2⟩ := by
        simp only [holdTool, found, status]
        rfl
      rw [holdReady_eq hc] at held
      exact exec_reply ha ⟨rfl, rfl⟩ held rfl rfl ((fallNotices_length _ _).trans (by decide)) (by decide)
  · intro h tool loc location slot r s ha holds hl status
    have found := lookUpTool_of_holds holds
    have moved : moveTool tool loc s.hall = accept [] (s.hall.putRecord slot { r with location }) := by
      rcases status with status | status | ⟨_, status⟩ <;> simp [moveTool, hl, found, status]
    exact exec_reply ha ⟨rfl, rfl⟩ moved rfl rfl (by simp) (by decide)

/-! ### RELEASE-HOLD -/

/-- The judgement of R16 for AUDIT and MANUAL: a fresh measurement and life in hand. -/
theorem fit_iff {s : Hall} {r : Record} {c : ClassEntry} (hc : s.classes.get r.cls = some c) :
    (r.measured.isSome && decide (0 < r.life) && fresh (validityOf r.cls s) r) = true ↔
      ∃ g m, r.measured = some (g, m) ∧ 0 < r.life ∧ (c.policy.validity = 0 ∨ m.age < c.policy.validity) := by
  have validity : validityOf r.cls s = c.policy.validity := by simp [validityOf, hc]
  rw [validity]
  unfold fresh
  cases r.measured with
  | none => simp
  | some m => obtain ⟨g, m⟩ := m; simp

/-- Settles O27, by the hold reason and the regrind choice. -/
theorem releaseHoldDecidesByReason : Obligations.ReleaseHoldDecidesByReason := by
  intro h tool slot r reason c s ha holds status hc cleared fit
  have answers {regrind : Bool} {x : Reply} (hr : releaseHeld tool regrind s.hall = x) (hn : x.notices = []) :
      exec (.releaseHold h tool regrind) s = .next (s.answered .releaseHold h x.code x.body x.notices x.hall) :=
    exec_reply ha ⟨rfl, rfl⟩ hr rfl rfl (by simp [hn]) (by decide)
  have found := lookUpTool_of_holds holds
  have without : releaseHeld tool false s.hall = releaseWithout slot r reason s.hall := by
    simp [releaseHeld, found, status]
  have regrinds : releaseHeld tool true s.hall = releaseRegrind slot r s.hall := by
    simp [releaseHeld, found, status]
  have fitness := fit_iff (r := r) hc
  refine ⟨fun worn => ?_, fun toNew => ?_, fun ⟨judged, isFit, noTaker⟩ => ?_, fun count life => ?_, fun spent => ?_⟩
  · subst worn
    exact answers without rfl
  · have new : releaseWithout slot r reason s.hall = accept [1] (s.hall.putRecord slot r.clearGeometry) := by
      rcases toNew with rfl | rfl | rfl | ⟨rfl | rfl, unfit⟩
      · rfl
      · rfl
      · rfl
      all_goals
        unfold releaseWithout
        dsimp only
        rw [if_neg (fun judged => unfit (fitness.mp judged))]
        rfl
    exact answers (without.trans new) rfl
  · have ready : releaseWithout slot r reason s.hall =
        ⟨(enterReady slot r false s.hall).hall, .ok, [2], (enterReady slot r false s.hall).notices⟩ := by
      rcases judged with rfl | rfl <;>
      · unfold releaseWithout
        dsimp only
        rw [if_pos (fitness.mpr isFit)]
        rfl
    rw [enterReady_rise hc noTaker] at ready
    exact answers (without.trans ready) rfl
  · have ground : releaseRegrind slot r s.hall = accept
        [natWord (r.regrinds + 1), natWord (c.shape.fullLife - (r.regrinds + 1) * c.policy.regrindLoss)]
        (s.hall.putRecord slot { r.clearGeometry with
          regrinds := r.regrinds + 1, life := c.shape.fullLife - (r.regrinds + 1) * c.policy.regrindLoss,
          warned := false, ended := false }) := by
      unfold releaseRegrind
      simp only [hc]
      rw [if_neg (by omega), if_neg (by omega)]
    exact answers (regrinds.trans ground) rfl
  · have exhausted : releaseRegrind slot r s.hall = refuse .exhausted s.hall := by
      unfold releaseRegrind
      simp only [hc]
      rcases spent with count | life
      · rw [if_pos count]
      · rw [if_pos life]
        exact ite_self _
    exact answers (regrinds.trans exhausted) rfl

/-! ### The queries -/

/-- Settles O29: each query is answered from the tables as they stand. -/
theorem recordClassAndTicketQueriesAnswer : Obligations.RecordClassAndTicketQueriesAnswer := by
  refine ⟨fun h tool slot r s ha holds => ?_, fun h cls start c s ha c1 c2 hs hc => ?_,
    fun h cls c s ha c1 c2 hc => ?_, fun h n s ha hn => ?_, fun h cls start s ha hs hc => ?_⟩
  · have image : queryRecord tool s.hall = accept (recordImage slot r) s.hall := by
      simp [queryRecord, lookUpTool_of_holds holds]
    exact exec_reply ha ⟨rfl, rfl⟩ image rfl rfl (by simp) (by decide)
  · intro chain page
    have listing : findInClass cls start s.hall =
        accept (natWord page.length :: natWord chain.length :: page.flatMap (chainEntry s.hall.records)) s.hall := by
      unfold findInClass
      rw [if_neg (by omega), hc]
      rfl
    exact exec_reply ha ⟨rfl, rfl⟩ listing rfl rfl (by simp) (by decide)
  · have entry : queryEntry cls s.hall = accept
        (classWords c ++ [natWord (recordsOf cls.toNat s.hall), natWord (ticketsOf cls.toNat s.hall)]) s.hall := by
      simp [queryEntry, Hall.lookUpClass, c1, c2, hc]
    exact exec_reply ha ⟨rfl, rfl⟩ entry rfl rfl (by simp) (by decide)
  · have image : queryTicketImage n s.hall = accept
        (match s.hall.tickets.get n.toNat with
          | none => freeTicketImage n.toNat
          | some t => ticketImage n.toNat t ((t.status.slot.map fun slot => toolIn slot s.hall).getD 0)
              (collectionOf n.toNat t s.hall)) s.hall := by
      unfold queryTicketImage Config.tickets
      rw [if_neg (by omega)]
      cases s.hall.tickets.get n.toNat <;> rfl
    exact exec_reply ha ⟨rfl, rfl⟩ image rfl rfl (by simp) (by decide)
  · intro pool queue
    have listing : queryPool cls start s.hall = accept
        (if cls.toNat = 0 then pool
          else pool ++ natWord queue.length ::
            ((queue.drop start.toNat).take 12).flatMap (queueEntry s.hall.tickets)) s.hall := by
      unfold queryPool
      dsimp only
      rw [if_neg (by omega)]
      by_cases all : cls.toNat = 0
      · rw [if_pos all, if_pos all]
        rfl
      · rw [if_neg all, if_neg all]
        obtain ⟨c, hc⟩ := Option.isSome_iff_exists.mp (hc.resolve_left all).2
        rw [hc]
        rfl
    exact exec_reply ha ⟨rfl, rfl⟩ listing rfl rfl (by simp) (by decide)

/-! ### The cold start -/

/-- Settles O18: a cold start does not look at the state it finds. -/
theorem coldStartEmptiesThePart : Obligations.ColdStartEmptiesThePart := by
  intro inputs s
  have channel (c : Fin 16) : (coldStart (levelsOf inputs) s.hall).channel c =
      Channel.cold (levelOf (inputs.getLsbD c.val)) := by
    simp [coldStart, Hall.cold, Hall.channel, levelsOf, Vector.get_eq_getElem]
  have pins : releaseLines (coldStart (levelsOf inputs) s.hall) = Vector.replicate 16 false := by
    refine Vector.ext fun i hi => ?_
    have closed := channel ⟨i, hi⟩
    rw [Hall.channel] at closed
    have := mapBank_get (fun c : Channel => decide (c.state = .released)) (coldStart (levelsOf inputs) s.hall).channels
      ⟨i, hi⟩
    rw [closed] at this
    simpa [releaseLines, Vector.get_eq_getElem, Channel.cold] using this
  refine ⟨_, rfl, rfl, rfl, rfl, rfl, rfl, rfl, rfl, rfl, rfl, fun n => ?_, channel, rfl, rfl, rfl, rfl, rfl, rfl, rfl,
    rfl, rfl, rfl, rfl, rfl, ?_, rfl⟩
  · change (Vector.replicate 4 Station.cold).get n = _
    simp [Vector.get_eq_getElem, Station.cold]
  · have attn : attnLine (coldStart (levelsOf inputs) s.hall) = true := by simp [attnLine, coldStart, Hall.cold]
    change (⟨true, false, attnLine (coldStart (levelsOf inputs) s.hall),
      releaseLines (coldStart (levelsOf inputs) s.hall)⟩ : Pins) = _
    rw [attn, pins]

end Sys2Proof.Machine

/-! ## The record store's part of the law of the hall: chains, usable counts, classes and life -/

namespace Sys2Proof.Machine

/-! ### The place of a slot in its chain -/

/-- `a` stands before `b` in a chain: less life, or equal life and a lower tool number. -/
def chainRises (records : Table Record) (a b : Nat) : Prop :=
  ∀ ra rb, records.get a = some ra → records.get b = some rb →
    ra.life < rb.life ∨ (ra.life = rb.life ∧ ra.tool < rb.tool)

/-- A slot joins a chain at one place, and the other entries keep their order. -/
theorem chainInsert_split (records : Table Record) (slot : Nat) (r : Record) (chain : List Nat) :
    ∃ before after, chain = before ++ after ∧ chainInsert records slot r chain = before ++ slot :: after := by
  induction chain with
  | nil => exact ⟨[], [], rfl, rfl⟩
  | cons x rest ih =>
    obtain ⟨before, after, split, joined⟩ := ih
    have behind : ∃ before after, x :: rest = before ++ after ∧
        x :: chainInsert records slot r rest = before ++ slot :: after :=
      ⟨x :: before, after, by rw [split]; rfl, by rw [joined]; rfl⟩
    unfold chainInsert
    split
    · split
      · exact behind
      · exact ⟨[], x :: rest, rfl, rfl⟩
    · exact behind

theorem mem_chainInsert (records : Table Record) (slot x : Nat) (r : Record) (chain : List Nat) :
    x ∈ chainInsert records slot r chain ↔ x = slot ∨ x ∈ chain := by
  obtain ⟨before, after, rfl, joined⟩ := chainInsert_split records slot r chain
  rw [joined]
  simp only [List.mem_append, List.mem_cons]
  tauto

/-- A record with a tool number of its own joins a rising chain where it goes on rising. -/
theorem chainInsert_rises {records : Table Record} {slot : Nat} {r : Record} {chain : List Nat}
    (hr : records.get slot = some r) (others : ∀ x ∈ chain, ∃ rx, records.get x = some rx ∧ rx.tool ≠ r.tool)
    (rises : chain.Pairwise (chainRises records)) :
    (chainInsert records slot r chain).Pairwise (chainRises records) := by
  induction chain with
  | nil => simp [chainInsert]
  | cons x rest ih =>
    obtain ⟨first, later⟩ := List.pairwise_cons.mp rises
    obtain ⟨rx, hx, tool⟩ := others x List.mem_cons_self
    have joined := ih (fun y hy => others y (List.mem_cons_of_mem _ hy)) later
    unfold chainInsert
    simp only [hx]
    split
    · rename_i before
      refine List.pairwise_cons.mpr ⟨fun y hy => ?_, joined⟩
      rcases (mem_chainInsert records slot y r rest).mp hy with rfl | hy
      · intro ra rb ha hb
        rw [hx] at ha
        rw [hr] at hb
        cases ha
        cases hb
        simpa [chainBefore] using before
      · exact first y hy
    · rename_i behind
      simp only [chainBefore, Bool.or_eq_true, decide_eq_true_eq, Bool.and_eq_true, beq_iff_eq, not_or, not_and]
        at behind
      have below : r.life < rx.life ∨ (r.life = rx.life ∧ r.tool < rx.tool) := by omega
      refine List.pairwise_cons.mpr ⟨fun y hy ra rb ha hb => ?_, rises⟩
      rw [hr] at ha
      cases ha
      rcases List.mem_cons.mp hy with rfl | hy
      · rw [hx] at hb
        cases hb
        exact below
      · have := first y hy rx rb hx hb
        omega

/-! ### Chains by what they see of the records -/

/-- What the chains see of a slot. -/
def Hall.readyAt (s : Hall) (slot : Nat) : Option (Nat × Nat × Nat) := (s.records.get slot).bind Record.readyKey

/-- The chains hold exactly the slots with a key, each in its class's chain, by life and then by tool number. -/
structure ChainsOk (key : Nat → Option (Nat × Nat × Nat)) (chains : Table (List Nat)) : Prop where
  member : ∀ cls slot, slot ∈ chains.list cls ↔ ∃ life tool, key slot = some (cls, life, tool)
  sorted : ∀ cls, (chains.list cls).Pairwise fun a b => ∀ ca la ta cb lb tb,
    key a = some (ca, la, ta) → key b = some (cb, lb, tb) → la < lb ∨ (la = lb ∧ ta < tb)

theorem readyKey_eq_some {r : Record} {cls life tool : Nat} :
    r.readyKey = some (cls, life, tool) ↔ r.status = .ready ∧ r.cls = cls ∧ r.life = life ∧ r.tool = tool := by
  unfold Record.readyKey
  split <;> simp_all

theorem readyAt_eq_some {s : Hall} {slot cls life tool : Nat} :
    s.readyAt slot = some (cls, life, tool) ↔
      ∃ r, s.records.get slot = some r ∧ r.status = .ready ∧ r.cls = cls ∧ r.life = life ∧ r.tool = tool := by
  simp [Hall.readyAt, Option.bind_eq_some_iff, readyKey_eq_some]

namespace ChainsOk

variable {key key' : Nat → Option (Nat × Nat × Nat)} {chains : Table (List Nat)}

theorem congr (h : ChainsOk key chains) (same : ∀ slot, key' slot = key slot) : ChainsOk key' chains := by
  obtain rfl : key' = key := funext same
  exact h

/-- No slot stands twice in a chain. -/
theorem nodup (h : ChainsOk key chains) (cls : Nat) : (chains.list cls).Nodup := by
  refine (h.sorted cls).imp_of_mem fun {a b} ha _ rises e => ?_
  subst e
  obtain ⟨life, tool, hk⟩ := (h.member cls a).mp ha
  have := rises cls life tool cls life tool hk hk
  omega

/-- A slot leaves its chain. -/
theorem leave (h : ChainsOk key chains) {slot cls life tool : Nat} (own : key slot = some (cls, life, tool))
    (gone : key' slot = none) (others : ∀ x, x ≠ slot → key' x = key x) :
    ChainsOk key' (chains.putList cls ((chains.list cls).filter fun x => x != slot)) where
  member c x := by
    rw [list_putList]
    by_cases hx : x = slot
    · subst hx
      have : ∀ life tool, ¬key' x = some (c, life, tool) := by simp [gone]
      have elsewhere : x ∈ chains.list c → c = cls := fun mem => by
        obtain ⟨l, t, hk⟩ := (h.member c x).mp mem
        rw [own] at hk
        cases hk
        rfl
      split
      · simp [gone]
      · rename_i hc
        simp only [gone]
        exact ⟨fun mem => absurd (elsewhere mem).symm hc, by simp⟩
    · rw [others x hx]
      split
      · subst_vars
        simp [hx, h.member]
      · exact h.member c x
  sorted c := by
    rw [list_putList]
    have kept : ∀ a b, (∀ ca la ta cb lb tb, key a = some (ca, la, ta) → key b = some (cb, lb, tb) →
        la < lb ∨ (la = lb ∧ ta < tb)) → ∀ ca la ta cb lb tb, key' a = some (ca, la, ta) →
        key' b = some (cb, lb, tb) → la < lb ∨ (la = lb ∧ ta < tb) := by
      intro a b rises ca la ta cb lb tb ka kb
      have ha : a ≠ slot := by rintro rfl; simp [gone] at ka
      have hb : b ≠ slot := by rintro rfl; simp [gone] at kb
      exact rises _ _ _ _ _ _ (others a ha ▸ ka) (others b hb ▸ kb)
    split
    · exact ((h.sorted cls).filter _).imp fun {a b} => kept a b
    · exact (h.sorted c).imp fun {a b} => kept a b

/-- A slot whose record has a tool number of its own joins its class's chain. -/
theorem join (h : ChainsOk key chains) {records : Table Record} {slot : Nat} {r : Record}
    (hr : records.get slot = some r) (out : key slot = none)
    (listed : ∀ x cls life tool, key x = some (cls, life, tool) →
      ∃ rx, records.get x = some rx ∧ rx.life = life ∧ rx.tool = tool ∧ rx.tool ≠ r.tool)
    (own : key' slot = some (r.cls, r.life, r.tool)) (others : ∀ x, x ≠ slot → key' x = key x) :
    ChainsOk key' (chains.putList r.cls (chainInsert records slot r (chains.list r.cls))) := by
  have outside : ∀ c, slot ∉ chains.list c := fun c mem => by
    obtain ⟨life, tool, hk⟩ := (h.member c slot).mp mem
    simp [out] at hk
  have found : ∀ x cls life tool, key' x = some (cls, life, tool) →
      ∃ rx, records.get x = some rx ∧ rx.life = life ∧ rx.tool = tool := fun x cls life tool hk => by
    by_cases hx : x = slot
    · subst hx
      rw [own] at hk
      cases hk
      exact ⟨r, hr, rfl, rfl⟩
    · obtain ⟨rx, hrx, hl, ht, -⟩ := listed x cls life tool (others x hx ▸ hk)
      exact ⟨rx, hrx, hl, ht⟩
  constructor
  · intro c x
    rw [list_putList]
    by_cases hx : x = slot
    · subst hx
      split
      · subst_vars
        simp [mem_chainInsert, own]
      · rename_i hc
        simp [outside, own, hc]
    · rw [others x hx]
      split
      · subst_vars
        simp [mem_chainInsert, hx, h.member]
      · exact h.member c x
  · intro c
    rw [list_putList]
    split
    · subst_vars
      have rises : (chains.list r.cls).Pairwise (chainRises records) := by
        refine (h.sorted r.cls).imp_of_mem fun {a b} ha hb rises ra rb hra hrb => ?_
        obtain ⟨la, ta, ka⟩ := (h.member r.cls a).mp ha
        obtain ⟨lb, tb, kb⟩ := (h.member r.cls b).mp hb
        obtain ⟨_, ea, rfl, rfl, -⟩ := listed _ _ _ _ ka
        obtain ⟨_, eb, rfl, rfl, -⟩ := listed _ _ _ _ kb
        rw [ea] at hra
        rw [eb] at hrb
        cases hra
        cases hrb
        exact rises _ _ _ _ _ _ ka kb
      have joined := chainInsert_rises hr (fun x hx => by
        obtain ⟨life, tool, hk⟩ := (h.member r.cls x).mp hx
        obtain ⟨rx, hrx, -, -, ne⟩ := listed _ _ _ _ hk
        exact ⟨rx, hrx, ne⟩) rises
      refine joined.imp fun {a b} rises ca la ta cb lb tb ka kb => ?_
      obtain ⟨ra, hra, rfl, rfl⟩ := found _ _ _ _ ka
      obtain ⟨rb, hrb, rfl, rfl⟩ := found _ _ _ _ kb
      exact rises ra rb hra hrb
    · rename_i hc
      refine (h.sorted c).imp_of_mem fun {a b} ha hb rises => ?_
      rw [others a fun e => outside c (e ▸ ha), others b fun e => outside c (e ▸ hb)]
      exact rises

end ChainsOk

/-! ### Counting records -/

/-- The record counts among the usable ones of a class (R8). -/
def Record.countsIn (cls : Nat) (r : Record) : Bool :=
  decide (r.cls = cls ∧ 0 < r.life ∧
    (r.status = .ready ∨ r.status = .promised ∨ r.status = .out ∨ r.status = .mounted))

theorem countsIn_eq (cls : Nat) (r : Record) : r.countsIn cls = (r.cls == cls && r.usable) := by
  unfold Record.countsIn Record.usable
  cases r.status <;> by_cases h : r.cls = cls <;> simp [h]

section Count

variable {α : Type} {p : α → Bool} {t : Table α} {n : Nat} {v : α}

theorem count_cons (k : Nat) (w : α) (rest : Table α) :
    Table.count p ((k, w) :: rest) = rest.count p + (if p w then 1 else 0) := by
  cases hw : p w <;> simp [Table.count, hw]

/-- An entry that is not listed takes its place. -/
theorem count_put_new (h : t.wf) (free : t.get n = none) :
    (t.put n v).count p = t.count p + (if p v then 1 else 0) := by
  induction t with
  | nil => exact count_cons n v []
  | cons e rest ih =>
    obtain ⟨k, w⟩ := e
    have hk : k ≠ n := by rintro rfl; simp [Table.get] at free
    have later := ih (List.pairwise_cons.mp h).2 (by simpa [Table.get, hk] using free)
    unfold Table.put
    split
    · rw [count_cons n v]
    · rw [if_neg (Ne.symm hk), count_cons, count_cons, later]
      omega

/-- An entry takes the place of the one listed. -/
theorem count_put (h : t.wf) {w : α} (listed : t.get n = some w) :
    (t.put n v).count p + (if p w then 1 else 0) = t.count p + (if p v then 1 else 0) := by
  induction t with
  | nil => cases listed
  | cons e rest ih =>
    obtain ⟨k, x⟩ := e
    obtain ⟨first, later⟩ := List.pairwise_cons.mp h
    unfold Table.get at listed
    unfold Table.put
    split at listed
    · rename_i hk
      cases listed
      rw [if_neg (by omega), if_pos hk.symm, count_cons, count_cons]
      omega
    · rename_i hk
      have below : k < n := first _ (mem_of_get _ _ _ listed)
      have := ih later listed
      rw [if_neg (by omega), if_neg (by omega), count_cons, count_cons]
      omega

/-- The listed entry is taken out. -/
theorem count_del (h : t.wf) (listed : t.get n = some v) :
    (t.del n).count p + (if p v then 1 else 0) = t.count p := by
  induction t with
  | nil => cases listed
  | cons e rest ih =>
    obtain ⟨k, x⟩ := e
    obtain ⟨first, later⟩ := List.pairwise_cons.mp h
    unfold Table.get at listed
    unfold Table.del
    split at listed
    · rename_i hk
      cases listed
      subst hk
      have kept : rest.filter (fun e => e.1 != k) = rest :=
        List.filter_eq_self.mpr fun e he => by have := first e he; simp only [bne_iff_ne]; omega
      rw [List.filter_cons, if_neg (by simp), kept, count_cons]
    · rename_i hk
      have := ih later listed
      unfold Table.del at this
      rw [List.filter_cons, if_pos (by simpa using hk), count_cons, count_cons]
      omega

/-- Nothing is counted exactly when no listed entry satisfies the condition. -/
theorem count_eq_zero : t.count p = 0 ↔ ∀ e ∈ t, p e.2 = false := by
  simp [Table.count, List.length_eq_zero_iff, List.filter_eq_nil_iff]

end Count

/-- The number of usable records of a class. -/
def Hall.usableIn (s : Hall) (cls : Nat) : Nat := s.records.count (Record.countsIn cls)

/-- The usable counts and low marks of the class entries are those of the records. -/
def CountsOk (count : Nat → Nat) (classes : Table ClassEntry) : Prop :=
  ∀ cls c, classes.get cls = some c → c.usable = count cls ∧ c.low = decide (c.usable < c.policy.minStock)

namespace CountsOk

variable {count count' : Nat → Nat} {classes : Table ClassEntry} {cls : Nat} {c : ClassEntry}

/-- One entry is written. -/
theorem put (h : CountsOk count classes) (own : c.usable = count' cls)
    (low : c.low = decide (c.usable < c.policy.minStock)) (others : ∀ x, x ≠ cls → count' x = count x) :
    CountsOk count' (classes.put cls c) := by
  intro x cx hx
  rw [get_put] at hx
  split at hx
  · cases hx
    subst_vars
    exact ⟨own, low⟩
  · rename_i ne
    rw [others x (Ne.symm ne)]
    exact h x cx hx

end CountsOk

/-! ### The law of the record store -/

/-- The record store's part of the law of the hall. -/
structure StoreLaw (s : Hall) : Prop where
  fullLife : ∀ cls c, s.classes.get cls = some c → 1 ≤ c.shape.fullLife
  defined : ∀ slot r, s.records.get slot = some r → s.classes.has r.cls = true
  life : ∀ slot r, s.records.get slot = some r → r.LifeOk
  chains : ChainsOk s.readyAt s.chains
  counts : CountsOk s.usableIn s.classes

theorem has_put {α : Type} (t : Table α) (n m : Nat) (v : α) : (t.put n v).has m = (decide (n = m) || t.has m) := by
  unfold Table.has
  rw [get_put]
  split <;> simp_all

/-- A record in a state without life left must be OUT, MOUNTED or HELD WORN. -/
theorem StoreLaw.alive {s : Hall} (h : StoreLaw s) {slot : Nat} {r : Record} (hr : s.records.get slot = some r)
    (status : r.status ≠ .out ∧ r.status ≠ .mounted ∧ r.status ≠ .held .worn) : 0 < r.life :=
  Nat.pos_of_ne_zero fun zero => by
    rcases h.life slot r hr zero with e | e | e
    · exact status.1 e
    · exact status.2.1 e
    · exact status.2.2 e

/-- The class of a live record is defined. -/
theorem StoreLaw.classOf {s : Hall} (h : StoreLaw s) {slot : Nat} {r : Record} (hr : s.records.get slot = some r) :
    ∃ c, s.classes.get r.cls = some c :=
  Option.isSome_iff_exists.mp (h.defined slot r hr)

end Sys2Proof.Machine

namespace Sys2Proof.Machine

/-! ### One record is rewritten -/

theorem readyAt_put {s t : Hall} {slot : Nat} {r' : Record} (records : t.records = s.records.put slot r') (x : Nat) :
    t.readyAt x = if slot = x then r'.readyKey else s.readyAt x := by
  simp only [Hall.readyAt, records, get_put]
  split <;> rfl

theorem usableIn_put {s t : Hall} {slot : Nat} {r r' : Record} (wf : s.records.wf)
    (hr : s.records.get slot = some r) (records : t.records = s.records.put slot r') (x : Nat) :
    t.usableIn x + (if r.countsIn x then 1 else 0) = s.usableIn x + (if r'.countsIn x then 1 else 0) := by
  simpa only [Hall.usableIn, records] using count_put wf hr

/-- A tool number stands in one slot. -/
theorem IndexLaw.slot_unique {s : Hall} (law : IndexLaw s) {a b : Nat} {ra rb : Record}
    (ha : s.records.get a = some ra) (hb : s.records.get b = some rb) (tool : ra.tool = rb.tool) : a = b := by
  have found := (law ra.tool a).mpr ⟨ra, ha, rfl⟩
  rw [(law ra.tool b).mpr ⟨rb, hb, tool.symm⟩] at found
  exact (Option.some.inj found).symm

namespace StoreLaw

variable {s t : Hall} {slot : Nat} {r r' : Record}

/-- The store's law does not look beyond records, chains and classes. -/
theorem congr (h : StoreLaw s) (records : t.records = s.records) (chains : t.chains = s.chains)
    (classes : t.classes = s.classes) : StoreLaw t where
  fullLife := by rw [classes]; exact h.fullLife
  defined := by rw [records, classes]; exact h.defined
  life := by rw [records]; exact h.life
  chains := by
    rw [chains]
    exact h.chains.congr fun x => by simp only [Hall.readyAt, records]
  counts := by
    rw [classes]
    have same : t.usableIn = s.usableIn := funext fun cls => by simp only [Hall.usableIn, records]
    rw [same]
    exact h.counts

/-- One class entry is rewritten, or added when no record has its class. -/
theorem putClass (h : StoreLaw s) {cls : Nat} {c : ClassEntry} (life : 1 ≤ c.shape.fullLife)
    (usable : c.usable = s.usableIn cls) (low : c.low = decide (c.usable < c.policy.minStock)) :
    StoreLaw (s.putClass cls c) where
  fullLife x cx hx := by
    simp only [putClass_classes, get_put] at hx
    split at hx
    · cases hx; exact life
    · exact h.fullLife x cx hx
  defined x rx hx := by
    simp only [putClass_classes, has_put, Bool.or_eq_true]
    exact .inr (h.defined x rx hx)
  life := h.life
  chains := h.chains
  counts := h.counts.put usable low fun _ _ => rfl

/-- A record is rewritten: the chains hold with it, and the classes are told when the usable count changes. -/
theorem rewrite (h : StoreLaw s) (wf : s.records.wf) (hr : s.records.get slot = some r)
    (records : t.records = s.records.put slot r') (cls : r'.cls = r.cls) (life : r'.LifeOk)
    (chains : ChainsOk t.readyAt t.chains)
    (classes : (r'.usable = r.usable ∧ t.classes = s.classes) ∨
      ∃ c, s.classes.get r.cls = some c ∧
        ((r.usable = true ∧ r'.usable = false ∧ t.classes = s.classes.put r.cls (fallEntry c)) ∨
          (r.usable = false ∧ r'.usable = true ∧ t.classes = s.classes.put r.cls (riseEntry c)))) : StoreLaw t := by
  have counts := usableIn_put wf hr records
  simp only [countsIn_eq, cls] at counts
  have elsewhere : ∀ x, x ≠ r.cls → t.usableIn x = s.usableIn x := fun x hx => by
    have := counts x
    simp only [show (r.cls == x) = false from beq_false_of_ne hx.symm, Bool.false_and] at this
    simpa using this
  have own := counts r.cls
  simp only [beq_self_eq_true, Bool.true_and] at own
  have widened : ∀ x, s.classes.has x = true → t.classes.has x = true := fun x hx => by
    rcases classes with ⟨-, e⟩ | ⟨c, -, ⟨-, -, e⟩ | ⟨-, -, e⟩⟩ <;> rw [e]
    · exact hx
    · rw [has_put, hx, Bool.or_true]
    · rw [has_put, hx, Bool.or_true]
  have kept : ∀ x cx, t.classes.get x = some cx → ∃ c, s.classes.get x = some c ∧ cx.shape = c.shape := by
    intro x cx hx
    rcases classes with ⟨-, e⟩ | ⟨c, hc, ⟨-, -, e⟩ | ⟨-, -, e⟩⟩ <;> rw [e] at hx
    · exact ⟨cx, hx, rfl⟩
    all_goals
      rw [get_put] at hx
      split at hx
      · cases hx
        subst_vars
        exact ⟨c, hc, rfl⟩
      · exact ⟨cx, hx, rfl⟩
  refine ⟨fun x cx hx => ?_, fun x rx hx => widened _ ?_, fun x rx hx => ?_, chains, ?_⟩
  · obtain ⟨c, hc, shape⟩ := kept x cx hx
    rw [shape]
    exact h.fullLife x c hc
  · rw [records, get_put] at hx
    split at hx
    · cases hx
      rw [cls]
      exact h.defined slot r hr
    · exact h.defined x rx hx
  · rw [records, get_put] at hx
    split at hx
    · cases hx
      exact life
    · exact h.life x rx hx
  · rcases classes with ⟨same, e⟩ | ⟨c, hc, ⟨before, after, e⟩ | ⟨before, after, e⟩⟩ <;> rw [e]
    · have all : t.usableIn = s.usableIn := funext fun x => by
        by_cases hx : x = r.cls
        · rw [hx]
          rw [same] at own
          omega
        · exact elsewhere x hx
      rw [all]
      exact h.counts
    · rw [before, after] at own
      simp only [if_true, Bool.false_eq_true, if_false] at own
      exact h.counts.put (by simp only [fallEntry, (h.counts _ c hc).1]; omega) rfl elsewhere
    · rw [before, after] at own
      simp only [if_true, Bool.false_eq_true, if_false] at own
      exact h.counts.put (by simp only [riseEntry, (h.counts _ c hc).1]; omega) rfl elsewhere

/-- The chains after a record is rewritten in nothing they see. -/
theorem chains_same (h : StoreLaw s) (hr : s.records.get slot = some r) (records : t.records = s.records.put slot r')
    (chains : t.chains = s.chains) (ready : r'.readyKey = r.readyKey) : ChainsOk t.readyAt t.chains := by
  rw [chains]
  refine h.chains.congr fun x => ?_
  rw [readyAt_put records]
  split
  · subst_vars
    simp [Hall.readyAt, hr, ready]
  · rfl

/-- The chains after a READY record leaves READY. -/
theorem chains_leave (h : StoreLaw s) (hr : s.records.get slot = some r) (records : t.records = s.records.put slot r')
    (chains : t.chains = s.chains.putList r.cls ((s.chains.list r.cls).filter fun x => x != slot))
    (before : r.status = .ready) (after : r'.status ≠ .ready) : ChainsOk t.readyAt t.chains := by
  rw [chains]
  refine h.chains.leave (life := r.life) (tool := r.tool) ?_ ?_ fun x hx => ?_
  · exact readyAt_eq_some.mpr ⟨r, hr, before, rfl, rfl, rfl⟩
  · rw [readyAt_put records, if_pos rfl]
    simp [Record.readyKey, after]
  · rw [readyAt_put records, if_neg (Ne.symm hx)]

/-- The chains after a record enters READY. -/
theorem chains_join (h : StoreLaw s) (index : IndexLaw s) (hr : s.records.get slot = some r)
    (records : t.records = s.records.put slot r')
    (chains : t.chains = s.chains.putList r'.cls (chainInsert t.records slot r' (s.chains.list r'.cls)))
    (before : r.status ≠ .ready) (after : r'.status = .ready) (tool : r'.tool = r.tool) :
    ChainsOk t.readyAt t.chains := by
  rw [chains]
  refine h.chains.join ?_ ?_ (fun x cls life number hx => ?_) ?_ fun x hx => ?_
  · rw [records]
    exact get_put_self ..
  · simp [Hall.readyAt, hr, Record.readyKey, before]
  · obtain ⟨rx, hrx, status, rfl, rfl, rfl⟩ := readyAt_eq_some.mp hx
    have ne : slot ≠ x := by
      rintro rfl
      rw [hr] at hrx
      cases hrx
      exact before status
    refine ⟨rx, by rw [records, get_put_ne _ _ _ _ ne, hrx], rfl, rfl, fun same => ne ?_⟩
    exact (index.slot_unique hrx hr (same.trans tool)).symm
  · rw [readyAt_put records, if_pos rfl]
    exact readyKey_eq_some.mpr ⟨after, rfl, rfl, rfl⟩
  · rw [readyAt_put records, if_neg (Ne.symm hx)]

/-- A record is rewritten in nothing that chains or classes see. -/
theorem quiet (h : StoreLaw s) (wf : s.records.wf) (hr : s.records.get slot = some r)
    (records : t.records = s.records.put slot r') (chains : t.chains = s.chains) (classes : t.classes = s.classes)
    (cls : r'.cls = r.cls) (life : r'.LifeOk) (ready : r'.readyKey = r.readyKey) (usable : r'.usable = r.usable) :
    StoreLaw t :=
  h.rewrite wf hr records cls life (h.chains_same hr records chains ready) (.inl ⟨usable, classes⟩)

end StoreLaw

/-! ### The shared operations on the store -/

/-- The record store after the usable count of a defined class has fallen. -/
theorem usableFall_classes {cls : Nat} {s : Hall} {c : ClassEntry} (hc : s.classes.get cls = some c) :
    (usableFall cls s).1.classes = s.classes.put cls (fallEntry c) := by rw [usableFall_eq hc]

theorem usableFall_chains (cls : Nat) (s : Hall) : (usableFall cls s).1.chains = s.chains := by
  unfold usableFall
  split
  · rfl
  · dsimp only
    split <;> rfl

namespace StoreLaw

variable {s : Hall} {slot : Nat} {r r' : Record}

/-- A usable record that stands in no chain stops being usable. -/
theorem fall (h : StoreLaw s) (wf : s.records.wf) (hr : s.records.get slot = some r) (cls : r'.cls = r.cls)
    (life : r'.LifeOk) (ready : r'.readyKey = r.readyKey) (before : r.usable = true) (after : r'.usable = false) :
    StoreLaw (usableFall r.cls (s.putRecord slot r')).1 := by
  obtain ⟨c, hc⟩ := h.classOf hr
  have records : (usableFall r.cls (s.putRecord slot r')).1.records = s.records.put slot r' := usableFall_records _ _
  refine h.rewrite wf hr records cls life (h.chains_same hr records (usableFall_chains _ _) ready)
    (.inr ⟨c, hc, .inl ⟨before, after, ?_⟩⟩)
  exact usableFall_classes (s := s.putRecord slot r') hc

/-- A READY record is held. -/
theorem hold (h : StoreLaw s) (wf : s.records.wf) (hr : s.records.get slot = some r) (status : r.status = .ready)
    (cls : r'.cls = r.cls) (life : r'.life = r.life) (reason : HoldReason) :
    StoreLaw (holdReady slot r' reason s).1 := by
  obtain ⟨c, hc⟩ := h.classOf hr
  have alive := h.alive hr (by simp [status])
  unfold holdReady
  generalize hy : ({ r' with status := .held reason } : Record) = y
  have held : y.status = .held reason := by rw [← hy]
  have sameCls : y.cls = r.cls := by rw [← hy, ← cls]
  have sameLife : y.life = r.life := by rw [← hy, ← life]
  rw [cls]
  have records : (usableFall r.cls ((leaveChain slot r.cls s).putRecord slot y)).1.records = s.records.put slot y :=
    usableFall_records _ _
  refine h.rewrite wf hr records sameCls (fun zero => by omega)
    (h.chains_leave hr records (usableFall_chains _ _) status (by simp [held]))
    (.inr ⟨c, hc, .inl ⟨by simp [Record.usable, status, alive], by simp [Record.usable, held], ?_⟩⟩)
  exact usableFall_classes (s := (leaveChain slot r.cls s).putRecord slot y) hc

/-- A READY record is promised. -/
theorem promised (h : StoreLaw s) (wf : s.records.wf) (hr : s.records.get slot = some r) (status : r.status = .ready)
    {t : Hall} (records : t.records = s.records.put slot { r with status := .promised })
    (chains : t.chains = s.chains.putList r.cls ((s.chains.list r.cls).filter fun x => x != slot))
    (classes : t.classes = s.classes) : StoreLaw t := by
  have alive := h.alive hr (by simp [status])
  refine h.rewrite wf hr records rfl (fun zero => ?_) (h.chains_leave hr records chains status (by simp))
    (.inl ⟨by simp [Record.usable, status], classes⟩)
  simp only at zero
  omega

end StoreLaw

/-- A record enters READY, before it is offered (R6). -/
def arrive (slot : Nat) (r : Record) (wasUsable : Bool) (s : Hall) : Hall :=
  let r := { r with status := .ready }
  let s := joinChain slot r (s.putRecord slot r)
  if wasUsable then s else usableRise r.cls s

theorem enterReady_eq (slot : Nat) (r : Record) (wasUsable : Bool) (s : Hall) :
    enterReady slot r wasUsable s = offer slot (arrive slot r wasUsable s) := rfl

theorem usableRise_classes {cls : Nat} {s : Hall} {c : ClassEntry} (hc : s.classes.get cls = some c) :
    (usableRise cls s).classes = s.classes.put cls (riseEntry c) := by rw [usableRise_eq hc]

/-- What a rise changes: the classes, and no more. -/
theorem usableRise_only (cls : Nat) (s : Hall) : ∃ classes, usableRise cls s = { s with classes } := by
  unfold usableRise
  split
  · exact ⟨s.classes, rfl⟩
  · exact ⟨_, rfl⟩

/-- What the arrival of a record changes: records, chains and classes, and no more. -/
theorem arrive_only (slot : Nat) (r : Record) (wasUsable : Bool) (s : Hall) :
    ∃ classes, arrive slot r wasUsable s = { s with
      records := s.records.put slot { r with status := .ready }
      chains := s.chains.putList r.cls (chainInsert (s.records.put slot { r with status := .ready }) slot
        { r with status := .ready } (s.chains.list r.cls))
      classes } := by
  unfold arrive
  dsimp only
  split
  · exact ⟨s.classes, rfl⟩
  · obtain ⟨classes, e⟩ := usableRise_only r.cls
      (joinChain slot { r with status := .ready } (s.putRecord slot { r with status := .ready }))
    exact ⟨classes, e⟩

theorem arrive_records (slot : Nat) (r : Record) (wasUsable : Bool) (s : Hall) :
    (arrive slot r wasUsable s).records = s.records.put slot { r with status := .ready } := by
  obtain ⟨classes, e⟩ := arrive_only slot r wasUsable s
  rw [e]

/-- The store after a record has entered READY; the classes are told when it was not usable. -/
theorem StoreLaw.arrive {s : Hall} {slot : Nat} {r r' : Record} (h : StoreLaw s) (wf : s.records.wf)
    (index : IndexLaw s) (hr : s.records.get slot = some r) (status : r.status ≠ .ready) (alive : 0 < r.life)
    (tool : r'.tool = r.tool) (cls : r'.cls = r.cls) (life : r'.life = r.life) :
    StoreLaw (arrive slot r' r.usable s) := by
  obtain ⟨c, hc⟩ := h.classOf hr
  obtain ⟨classes, e⟩ := arrive_only slot r' r.usable s
  refine h.rewrite wf hr (r' := { r' with status := .ready }) (arrive_records ..) cls (fun zero => ?_)
    (h.chains_join index hr (arrive_records ..) (by rw [e]) status rfl tool) ?_
  · simp only [life] at zero
    omega
  have usable : ({ r' with status := .ready } : Record).usable = true := by
    simp [Record.usable, life, alive]
  unfold Machine.arrive
  dsimp only
  cases was : r.usable with
  | true => exact .inl ⟨usable, rfl⟩
  | false =>
    rw [cls]
    exact .inr ⟨c, hc, .inr ⟨rfl, usable, usableRise_classes (c := c) hc⟩⟩

end Sys2Proof.Machine

/-! ## The law of the hall in parts

Each part speaks of one unit's tables and of what that unit sees of a record, so that an operation is checked against the
parts it touches. `hallLaw_iff` ties the parts to the law. -/

namespace Sys2Proof.Machine

/-! ### What the other units see of a slot -/

/-- What a ticket sees of a slot: class and location of a PROMISED record. -/
def Hall.promisedAt (s : Hall) (slot : Nat) : Option (Nat × Location) := (s.records.get slot).bind Record.promisedView

/-- What a binding sees of a slot: the location of a MOUNTED record. -/
def Hall.mountedAt (s : Hall) (slot : Nat) : Option Location := (s.records.get slot).bind Record.mountedView

/-- What a session sees of a slot: whether its record is GAUGING. -/
def Hall.gaugingAt (s : Hall) (slot : Nat) : Bool := ((s.records.get slot).map fun r => r.status.isGauging).getD false

theorem promisedAt_eq_some {s : Hall} {slot cls : Nat} {location : Location} :
    s.promisedAt slot = some (cls, location) ↔
      ∃ r, s.records.get slot = some r ∧ r.status = .promised ∧ r.cls = cls ∧ r.location = location := by
  simp [Hall.promisedAt, Option.bind_eq_some_iff, Record.promisedView]

theorem mountedAt_eq_some {s : Hall} {slot : Nat} {location : Location} :
    s.mountedAt slot = some location ↔
      ∃ r, s.records.get slot = some r ∧ r.status = .mounted ∧ r.location = location := by
  simp [Hall.mountedAt, Option.bind_eq_some_iff, Record.mountedView]

theorem gaugingAt_eq_true {s : Hall} {slot : Nat} :
    s.gaugingAt slot = true ↔ ∃ r, s.records.get slot = some r ∧ r.status.isGauging = true := by
  unfold Hall.gaugingAt
  cases s.records.get slot <;> simp

/-! ### Bindings and sessions -/

/-- The pocket unit's part: a binding joins a machine's pocket to a MOUNTED record located there. -/
structure MountLaw (s : Hall) : Prop where
  machine : ∀ e b, s.bindings.get e = some b → (s.client b.client).role = .machine
  bound : ∀ e b, s.bindings.get e = some b → s.mountedAt b.slot = some (.pocket b.client b.pocket)
  single : ∀ e f b d, s.bindings.get e = some b → s.bindings.get f = some d → b.client = d.client →
    b.pocket = d.pocket → e = f
  mounted : ∀ slot location, s.mountedAt slot = some location → ∃ e b, s.bindings.get e = some b ∧ b.slot = slot

/-- The presetting unit's part: sessions belong to GAUGING stations, tool sessions to GAUGING records. -/
structure GaugeLaw (s : Hall) : Prop where
  session : ∀ n, (s.station n).session.isSome = (s.station n).state.isGauging
  tool : ∀ n x slot, (s.station n).session = some x → x.kind.slot = some slot →
    (s.station n).state = .gauging .ready ∧ s.gaugingAt slot = true
  single : ∀ m n x y slot, (s.station m).session = some x → (s.station n).session = some y →
    x.kind.slot = some slot → y.kind.slot = some slot → m = n
  gauged : ∀ slot, s.gaugingAt slot = true → ∃ n x, (s.station n).session = some x ∧ x.kind.slot = some slot
  active : ∀ n, (s.station n).state ≠ .uncal → (s.station n).active.isSome = true
  pending : ∀ n, (s.station n).pending = true → (s.station n).state.isGauging = true ∧
    (s.station n).stagedGeometry.isSome = true ∧ (s.station n).stagedCorrection.isSome = true

theorem MountLaw.congr {s t : Hall} (h : MountLaw s) (bindings : t.bindings = s.bindings)
    (clients : t.clients = s.clients) (mounted : ∀ slot, t.mountedAt slot = s.mountedAt slot) : MountLaw t where
  machine := by simpa only [bindings, Hall.client, clients] using h.machine
  bound := by simpa only [bindings, mounted] using h.bound
  single := by simpa only [bindings] using h.single
  mounted := by simpa only [bindings, mounted] using h.mounted

theorem GaugeLaw.congr {s t : Hall} (h : GaugeLaw s) (stations : t.stations = s.stations)
    (gauging : ∀ slot, t.gaugingAt slot = s.gaugingAt slot) : GaugeLaw t := by
  have station : ∀ n, t.station n = s.station n := fun n => by simp only [Hall.station, stations]
  constructor <;> simp only [station, gauging]
  exacts [h.session, h.tool, h.single, h.gauged, h.active, h.pending]

/-! ### Tickets -/

/-- The state a channel asks of the ticket at its head. -/
def ChannelState.headStatus : ChannelState → Nat → TicketStatus
  | .released, slot => .released slot
  | .opened, slot => .opened slot
  | .ajar, slot => .opened slot
  | .off, slot => .promised slot
  | .idle, slot => .promised slot
  | .forced, slot => .promised slot

/-- The state a channel asks of a ticket of its queue. -/
def Channel.statusOf (x : Channel) (n slot : Nat) : TicketStatus :=
  if x.queue.head? = some n then x.state.headStatus slot else .promised slot

/-- The part of a channel's queue that stands in band order: what waits behind the head of a cycle, or all of it. -/
def Channel.ordered (x : Channel) : List Nat := if x.state.settled then x.queue else x.queue.tail

/-- The issue and drawer units' part: every ticket stands in the one collection that its state and its record's location
give it, in band order, and every PROMISED record is held by one ticket. -/
structure IssueLaw (s : Hall) : Prop where
  defined : ∀ n t, s.tickets.get n = some t → s.classes.has t.cls = true
  waiting : ∀ cls n, n ∈ s.waitQueues.list cls ↔
    ∃ t, s.tickets.get n = some t ∧ t.status = .waiting ∧ t.cls = cls
  waitNodup : ∀ cls, (s.waitQueues.list cls).Nodup
  waitBands : ∀ cls, BandsRise s.tickets (s.waitQueues.list cls)
  queued : ∀ c n, n ∈ (s.channel c).queue → (s.channel c).enabled = true ∧ ∃ t slot bin,
    s.tickets.get n = some t ∧ t.status = (s.channel c).statusOf n slot ∧
      s.promisedAt slot = some (t.cls, .drawer c bin)
  queueNodup : ∀ c, (s.channel c).queue.Nodup
  queueBands : ∀ c, BandsRise s.tickets (s.channel c).ordered
  handed : ∀ n, n ∈ s.handover → ∃ t slot location, s.tickets.get n = some t ∧ t.status = .promised slot ∧
    s.promisedAt slot = some (t.cls, location) ∧
      ∀ c bin, location = .drawer c bin → (s.channel c).enabled = false
  handNodup : s.handover.Nodup
  placed : ∀ n t slot, s.tickets.get n = some t → t.status.slot = some slot →
    n ∈ s.handover ∨ ∃ c, n ∈ (s.channel c).queue
  single : ∀ n m t u slot, s.tickets.get n = some t → s.tickets.get m = some u → t.status.slot = some slot →
    u.status.slot = some slot → n = m
  held : ∀ slot cls location, s.promisedAt slot = some (cls, location) →
    ∃ n t, s.tickets.get n = some t ∧ t.status.slot = some slot
  heads : ∀ c, (s.channel c).state.settled = false → (s.channel c).queue ≠ []
  off : ∀ c, (s.channel c).state = .off ↔ (s.channel c).enabled = false

theorem headStatus_slot (x : ChannelState) (slot : Nat) : (x.headStatus slot).slot = some slot := by cases x <;> rfl

theorem headStatus_settled {x : ChannelState} (h : x.settled = true) (slot : Nat) :
    x.headStatus slot = .promised slot := by
  cases x with
  | off | idle | forced => rfl
  | released | opened | ajar => cases h

theorem statusOf_slot (x : Channel) (n slot : Nat) : (x.statusOf n slot).slot = some slot := by
  unfold Channel.statusOf
  split
  · exact headStatus_slot _ _
  · rfl

/-- In a channel with no cycle every ticket is PROMISED. -/
theorem statusOf_settled {x : Channel} (h : x.state.settled = true) (n slot : Nat) :
    x.statusOf n slot = .promised slot := by
  unfold Channel.statusOf
  rw [headStatus_settled h, ite_self]

theorem statusOf_other {x : Channel} {n : Nat} (h : x.queue.head? ≠ some n) (slot : Nat) :
    x.statusOf n slot = .promised slot := if_neg h

namespace IssueLaw

variable {s : Hall}

/-- A ticket that holds a slot holds a PROMISED record of its class. -/
theorem holds (h : IssueLaw s) {n slot : Nat} {t : Ticket} (ht : s.tickets.get n = some t)
    (hs : t.status.slot = some slot) : ∃ location, s.promisedAt slot = some (t.cls, location) := by
  rcases h.placed n t slot ht hs with hand | ⟨c, queued⟩
  · obtain ⟨u, x, location, hu, status, view, -⟩ := h.handed n hand
    obtain rfl : u = t := Option.some.inj (hu.symm.trans ht)
    obtain rfl : x = slot := by simpa [status, TicketStatus.slot] using hs
    exact ⟨location, view⟩
  · obtain ⟨-, u, x, bin, hu, status, view⟩ := h.queued c n queued
    obtain rfl : u = t := Option.some.inj (hu.symm.trans ht)
    obtain rfl : x = slot := by simpa [status, statusOf_slot] using hs
    exact ⟨_, view⟩

/-- A ticket of a channel queue stands in no other collection. -/
theorem apart (h : IssueLaw s) {c : Fin 16} {n : Nat} (hn : n ∈ (s.channel c).queue) :
    n ∉ s.handover ∧ ∀ d, n ∈ (s.channel d).queue → d = c := by
  obtain ⟨enabled, t, slot, bin, ht, status, view⟩ := h.queued c n hn
  have own : t.status.slot = some slot := by rw [status, statusOf_slot]
  constructor
  · intro hand
    obtain ⟨u, x, location, hu, ustatus, uview, outside⟩ := h.handed n hand
    obtain rfl : u = t := Option.some.inj (hu.symm.trans ht)
    obtain rfl : x = slot := by simpa [ustatus, TicketStatus.slot] using own
    obtain ⟨-, rfl⟩ : u.cls = u.cls ∧ location = .drawer c bin := by simpa using uview.symm.trans view
    rw [outside c bin rfl] at enabled
    cases enabled
  · intro d hd
    obtain ⟨-, u, x, bin', hu, ustatus, uview⟩ := h.queued d n hd
    obtain rfl : u = t := Option.some.inj (hu.symm.trans ht)
    obtain rfl : x = slot := by simpa [ustatus, statusOf_slot] using own
    have := uview.symm.trans view
    simp only [Option.some.injEq, Prod.mk.injEq, Location.drawer.injEq, true_and] at this
    exact this.1

/-- A channel that is not enabled has no ticket. -/
theorem empty (h : IssueLaw s) {c : Fin 16} (hc : (s.channel c).enabled = false) : (s.channel c).queue = [] :=
  List.eq_nil_iff_forall_not_mem.mpr fun n hn => by
    have := (h.queued c n hn).1
    rw [hc] at this
    cases this

/-- The issue law does not look beyond tickets, queues, channels, the handover list, the PROMISED records and which
classes are defined. -/
theorem congr {t : Hall} (h : IssueLaw s) (tickets : t.tickets = s.tickets) (waitQueues : t.waitQueues = s.waitQueues)
    (channels : t.channels = s.channels) (handover : t.handover = s.handover)
    (promised : ∀ slot, t.promisedAt slot = s.promisedAt slot)
    (classes : ∀ cls, s.classes.has cls = true → t.classes.has cls = true) : IssueLaw t := by
  have channel : ∀ c, t.channel c = s.channel c := fun c => by simp only [Hall.channel, channels]
  constructor <;> simp only [channel, tickets, waitQueues, handover, promised]
  exacts [fun n x hx => classes _ (h.defined n x hx), h.waiting, h.waitNodup, h.waitBands, h.queued, h.queueNodup,
    h.queueBands, h.handed, h.handNodup, h.placed, h.single, h.held, h.heads, h.off]

end IssueLaw

/-! ### The parts make the law -/

/-- What holds of every list of a table holds of the list at every key, when it holds of the empty list. -/
theorem forall_list_iff {t : Table (List Nat)} (h : t.wf) {p : Nat → List Nat → Prop} (empty : ∀ n, p n []) :
    (∀ e ∈ t, p e.1 e.2) ↔ ∀ n, p n (t.list n) := by
  rw [forall_entry_iff h]
  unfold Table.list
  refine forall_congr' fun n => ?_
  cases t.get n with
  | none => simpa using empty n
  | some l => simp

/-- The law of the hall but for the tables and the index, which every effect keeps. -/
structure UnitsLaw (s : Hall) : Prop where
  store : StoreLaw s
  issue : IssueLaw s
  mount : MountLaw s
  gauge : GaugeLaw s

theorem storeLaw_of_hallLaw {s : Hall} (h : HallLaw s) : StoreLaw s := by
  obtain ⟨fullLife, records, -⟩ := h.classes
  obtain ⟨sorted, ready, listed⟩ := h.chains
  have sorted := (forall_list_iff h.tables.chains (p := fun _ l => l.Pairwise fun a b => ∀ ra ∈ s.records.get a,
    ∀ rb ∈ s.records.get b, ra.life < rb.life ∨ (ra.life = rb.life ∧ ra.tool < rb.tool)) (by simp)).mp sorted
  have ready := (forall_list_iff h.tables.chains (p := fun cls l => ∀ slot ∈ l, ∃ r ∈ s.records.get slot,
    r.status = .ready ∧ r.cls = cls) (by simp)).mp ready
  refine ⟨(forall_entry_iff h.tables.classes).mp fullLife,
    (forall_entry_iff (p := fun _ (r : Record) => s.classes.has r.cls = true) h.tables.records).mp records,
    (forall_entry_iff (p := fun _ (r : Record) => r.LifeOk) h.tables.records).mp h.life, ⟨fun cls slot => ?_,
      fun cls => ?_⟩, ?_⟩
  · constructor
    · intro mem
      obtain ⟨r, hr, status, rfl⟩ := ready cls slot mem
      exact ⟨r.life, r.tool, readyAt_eq_some.mpr ⟨r, hr, status, rfl, rfl, rfl⟩⟩
    · rintro ⟨life, tool, key⟩
      obtain ⟨r, hr, status, rfl, -, -⟩ := readyAt_eq_some.mp key
      exact listed (slot, r) (mem_of_get _ _ _ hr) status
  · refine (sorted cls).imp fun {a b} rises ca la ta cb lb tb ka kb => ?_
    obtain ⟨ra, hra, -, -, rfl, rfl⟩ := readyAt_eq_some.mp ka
    obtain ⟨rb, hrb, -, -, rfl, rfl⟩ := readyAt_eq_some.mp kb
    exact rises ra hra rb hrb
  · exact (forall_entry_iff (p := fun cls c => c.usable = s.usableIn cls ∧
      c.low = decide (c.usable < c.policy.minStock)) h.tables.classes).mp h.usable

theorem StoreLaw.chainLaw {s : Hall} (h : StoreLaw s) (tables : TablesLaw s) : ChainLaw s := by
  refine ⟨(forall_list_iff tables.chains (p := fun _ l => l.Pairwise fun a b => ∀ ra ∈ s.records.get a,
    ∀ rb ∈ s.records.get b, ra.life < rb.life ∨ (ra.life = rb.life ∧ ra.tool < rb.tool)) (by simp)).mpr fun cls => ?_,
    (forall_list_iff tables.chains (p := fun cls l => ∀ slot ∈ l, ∃ r ∈ s.records.get slot,
      r.status = .ready ∧ r.cls = cls) (by simp)).mpr fun cls slot mem => ?_, fun e he status => ?_⟩
  · refine (h.chains.sorted cls).imp_of_mem fun {a b} ha hb rises ra hra rb hrb => ?_
    obtain ⟨la, ta, ka⟩ := (h.chains.member cls a).mp ha
    obtain ⟨lb, tb, kb⟩ := (h.chains.member cls b).mp hb
    have := rises _ _ _ _ _ _ ka kb
    obtain ⟨_, ea, -, -, rfl, rfl⟩ := readyAt_eq_some.mp ka
    obtain ⟨_, eb, -, -, rfl, rfl⟩ := readyAt_eq_some.mp kb
    obtain rfl := Option.some.inj (hra.symm.trans ea)
    obtain rfl := Option.some.inj (hrb.symm.trans eb)
    exact this
  · obtain ⟨life, tool, key⟩ := (h.chains.member cls slot).mp mem
    obtain ⟨r, hr, status, hcls, -, -⟩ := readyAt_eq_some.mp key
    exact ⟨r, hr, status, hcls⟩
  · exact (h.chains.member e.2.cls e.1).mpr
      ⟨_, _, readyAt_eq_some.mpr ⟨e.2, get_of_mem tables.records he, status, rfl, rfl, rfl⟩⟩

theorem issueLaw_of_hallLaw {s : Hall} (h : HallLaw s) : IssueLaw s := by
  obtain ⟨waits, listed, placed, handNodup, queueNodup, apart, queued, handed⟩ := h.collections
  obtain ⟨holds, single, held⟩ := h.promises
  obtain ⟨released, opened, heads, off⟩ := h.cycles
  obtain ⟨waitBands, tails, wholes⟩ := h.bands
  have waits := (forall_list_iff h.tables.waitQueues (p := fun cls l => l.Nodup ∧
    ∀ n ∈ l, ∃ t ∈ s.tickets.get n, t.status = TicketStatus.waiting ∧ t.cls = cls) (by simp)).mp waits
  have bands := (forall_list_iff h.tables.waitQueues (p := fun _ l => BandsRise s.tickets l) (by simp)).mp waitBands
  have ticket {n : Nat} {t : Ticket} (ht : s.tickets.get n = some t) : (n, t) ∈ s.tickets := mem_of_get _ _ _ ht
  have view {n slot : Nat} {t : Ticket} {r : Record} (ht : s.tickets.get n = some t) (hs : t.status.slot = some slot)
      (hr : s.records.get slot = some r) : s.promisedAt slot = some (t.cls, r.location) := by
    obtain ⟨r', hr', status, cls⟩ := holds (n, t) (ticket ht) slot hs
    obtain rfl := Option.some.inj (hr.symm.trans hr')
    exact promisedAt_eq_some.mpr ⟨r, hr, status, cls, rfl⟩
  have enabledOf (c : Fin 16) : (s.channel c).queue ≠ [] → (s.channel c).enabled = true := fun ne => by
    obtain ⟨n, hn⟩ := List.exists_mem_of_ne_nil _ ne
    exact (queued c n hn).1
  refine
    { defined := fun n t ht => h.classes.2.2 (n, t) (ticket ht)
      waiting := fun cls n => ⟨(waits cls).2 n, ?_⟩
      waitNodup := fun cls => (waits cls).1
      waitBands := bands
      queued := fun c n hn => ?_
      queueNodup
      queueBands := fun c => ?_
      handed := fun n hn => ?_
      handNodup
      placed := fun n t slot ht hs => placed (n, t) (ticket ht) fun e => by
        rw [show t.status = .waiting from e] at hs
        cases hs
      single := fun n m t u slot ht hu hs hus => single (n, t) (ticket ht) (m, u) (ticket hu) (by simp [hs])
        (hs.trans hus.symm)
      held := fun slot cls location hv => ?_
      heads := fun c hc => ?_
      off }
  · rintro ⟨t, ht, status, rfl⟩
    exact listed (n, t) (ticket ht) status
  · obtain ⟨enabled, t, ht, slot, hs, r, hr, bin, location⟩ := queued c n hn
    refine ⟨enabled, t, slot, bin, ht, ?_, location ▸ view ht hs hr⟩
    have cycle := heads (n, t) (ticket ht) slot hs
    have own {d : Fin 16} (hd : (s.channel d).queue.head? = some n) : d = c :=
      (apart c n hn).2 d (List.mem_of_mem_head? hd)
    unfold Channel.statusOf
    cases status : t.status with
    | waiting => simp [status, TicketStatus.slot] at hs
    | promised x =>
      obtain rfl : x = slot := by simpa [status, TicketStatus.slot] using hs
      split
      · rename_i head
        have no (state : ∃ m ∈ (s.channel c).queue.head?, ∃ u ∈ s.tickets.get m, ∃ y ∈ u.status.slot,
            u.status = .released y ∨ u.status = .opened y) : False := by
          obtain ⟨m, hm, u, hu, y, -, e⟩ := state
          obtain rfl := Option.some.inj (head.symm.trans hm)
          obtain rfl := Option.some.inj (ht.symm.trans hu)
          simp [status] at e
        cases state : (s.channel c).state with
        | released =>
          obtain ⟨m, hm, u, hu, y, hy, e⟩ := released c state
          exact absurd ⟨m, hm, u, hu, y, hy, .inl e⟩ no
        | opened =>
          obtain ⟨m, hm, u, hu, y, hy, e⟩ := opened c (.inl state)
          exact absurd ⟨m, hm, u, hu, y, hy, .inr e⟩ no
        | ajar =>
          obtain ⟨m, hm, u, hu, y, hy, e⟩ := opened c (.inr state)
          exact absurd ⟨m, hm, u, hu, y, hy, .inr e⟩ no
        | off | idle | forced => rfl
      · rfl
    | released x =>
      obtain rfl : x = slot := by simpa [status, TicketStatus.slot] using hs
      obtain ⟨d, state, head⟩ := cycle.1 status
      obtain rfl := own head
      rw [if_pos head, state]
      rfl
    | opened x =>
      obtain rfl : x = slot := by simpa [status, TicketStatus.slot] using hs
      obtain ⟨d, state, head⟩ := cycle.2 status
      obtain rfl := own head
      rw [if_pos head]
      rcases state with state | state <;> rw [state] <;> rfl
  · unfold Channel.ordered
    split
    · rename_i settled
      cases state : (s.channel c).state with
      | idle => exact wholes c (.inl state)
      | forced => exact wholes c (.inr state)
      | off =>
        have none_ : (s.channel c).queue = [] := by
          by_contra ne
          have on := enabledOf c ne
          rw [(off c).mp state] at on
          cases on
        rw [none_]
        exact List.Pairwise.nil
      | released | opened | ajar => simp [state, ChannelState.settled] at settled
    · exact tails c
  · obtain ⟨t, ht, slot, hs, status, r, hr, outside⟩ := handed n hn
    exact ⟨t, slot, r.location, ht, status, view ht hs hr, outside⟩
  · obtain ⟨r, hr, status, -, -⟩ := promisedAt_eq_some.mp hv
    obtain ⟨f, hf, e⟩ := held (slot, r) (mem_of_get _ _ _ hr) status
    exact ⟨f.1, f.2, get_of_mem h.tables.tickets hf, e⟩
  · rintro none_
    cases state : (s.channel c).state with
    | released => obtain ⟨m, hm, -⟩ := released c state; simp [none_] at hm
    | opened => obtain ⟨m, hm, -⟩ := opened c (.inl state); simp [none_] at hm
    | ajar => obtain ⟨m, hm, -⟩ := opened c (.inr state); simp [none_] at hm
    | off | idle | forced => simp [state, ChannelState.settled] at hc

theorem IssueLaw.collectionLaw {s : Hall} (h : IssueLaw s) (tables : TablesLaw s) : CollectionLaw s := by
  refine ⟨(forall_list_iff tables.waitQueues (p := fun cls l => l.Nodup ∧
      ∀ n ∈ l, ∃ t ∈ s.tickets.get n, t.status = TicketStatus.waiting ∧ t.cls = cls) (by simp)).mpr fun cls =>
      ⟨h.waitNodup cls, fun n => (h.waiting cls n).mp⟩, fun e he status => ?_, fun e he status => ?_, h.handNodup,
    h.queueNodup, fun c n => h.apart, fun c n hn => ?_, fun n hn => ?_⟩
  · exact (h.waiting e.2.cls e.1).mpr ⟨e.2, get_of_mem tables.tickets he, status, rfl⟩
  · obtain ⟨slot, hs⟩ : ∃ slot, e.2.status.slot = some slot := by
      cases hst : e.2.status with
      | waiting => exact absurd hst status
      | promised x | released x | opened x => exact ⟨x, rfl⟩
    exact h.placed e.1 e.2 slot (get_of_mem tables.tickets he) hs
  · obtain ⟨enabled, t, slot, bin, ht, status, view⟩ := h.queued c n hn
    obtain ⟨r, hr, -, -, location⟩ := promisedAt_eq_some.mp view
    exact ⟨enabled, t, ht, slot, by rw [status, statusOf_slot]; rfl, r, hr, bin, location⟩
  · obtain ⟨t, slot, location, ht, status, view, outside⟩ := h.handed n hn
    obtain ⟨r, hr, -, -, rfl⟩ := promisedAt_eq_some.mp view
    exact ⟨t, ht, slot, by rw [status]; rfl, status, r, hr, outside⟩

theorem IssueLaw.promiseLaw {s : Hall} (h : IssueLaw s) (tables : TablesLaw s) : PromiseLaw s := by
  have ticket {e : Nat × Ticket} (he : e ∈ s.tickets) : s.tickets.get e.1 = some e.2 := get_of_mem tables.tickets he
  refine ⟨fun e he slot hs => ?_, fun e he f hf some_ same => ?_, fun e he status => ?_⟩
  · obtain ⟨location, view⟩ := h.holds (ticket he) hs
    obtain ⟨r, hr, status, cls, -⟩ := promisedAt_eq_some.mp view
    exact ⟨r, hr, status, cls⟩
  · obtain ⟨slot, hs⟩ := Option.isSome_iff_exists.mp some_
    exact h.single e.1 f.1 e.2 f.2 slot (ticket he) (ticket hf) hs (same ▸ hs)
  · obtain ⟨n, t, ht, hs⟩ := h.held e.1 e.2.cls e.2.location
      (promisedAt_eq_some.mpr ⟨e.2, get_of_mem tables.records he, status, rfl, rfl⟩)
    exact ⟨(n, t), mem_of_get _ _ _ ht, hs⟩

theorem IssueLaw.cycleLaw {s : Hall} (h : IssueLaw s) (tables : TablesLaw s) : CycleLaw s := by
  have head {c : Fin 16} (hc : (s.channel c).state.settled = false) : ∃ n ∈ (s.channel c).queue.head?,
      ∃ t ∈ s.tickets.get n, ∃ slot ∈ t.status.slot, t.status = (s.channel c).state.headStatus slot := by
    obtain ⟨n, rest, queue⟩ := List.exists_cons_of_ne_nil (h.heads c hc)
    have first : (s.channel c).queue.head? = some n := by rw [queue]; rfl
    obtain ⟨-, t, slot, bin, ht, status, -⟩ := h.queued c n (by rw [queue]; exact List.mem_cons_self)
    refine ⟨n, first, t, ht, slot, by rw [status, statusOf_slot]; rfl, ?_⟩
    rw [status, Channel.statusOf, if_pos first]
  have cycle {n slot : Nat} {t : Ticket} (ht : s.tickets.get n = some t) (hs : t.status.slot = some slot)
      (status : t.status ≠ .promised slot) : ∃ c, (s.channel c).queue.head? = some n ∧
        t.status = (s.channel c).state.headStatus slot := by
    rcases h.placed n t slot ht hs with hand | ⟨c, hn⟩
    · obtain ⟨u, x, -, hu, ustatus, -, -⟩ := h.handed n hand
      obtain rfl := Option.some.inj (hu.symm.trans ht)
      obtain rfl : x = slot := by simpa [ustatus, TicketStatus.slot] using hs
      exact absurd ustatus status
    · obtain ⟨-, u, x, bin, hu, ustatus, -⟩ := h.queued c n hn
      obtain rfl := Option.some.inj (hu.symm.trans ht)
      obtain rfl : x = slot := by simpa [ustatus, statusOf_slot] using hs
      by_cases first : (s.channel c).queue.head? = some n
      · exact ⟨c, first, by rw [ustatus, Channel.statusOf, if_pos first]⟩
      · exact absurd (ustatus.trans (statusOf_other first _)) status
  refine ⟨fun c hc => ?_, fun c hc => ?_, fun e he slot hs => ⟨fun status => ?_, fun status => ?_⟩, h.off⟩
  · have := head (c := c) (by rw [hc]; rfl)
    rwa [hc] at this
  · have := head (c := c) (by rcases hc with hc | hc <;> rw [hc] <;> rfl)
    rcases hc with hc | hc <;> rwa [hc] at this
  · obtain ⟨c, first, e⟩ := cycle (get_of_mem tables.tickets he) hs (by simp [status])
    refine ⟨c, ?_, first⟩
    rw [status] at e
    cases state : (s.channel c).state <;> simp [state, ChannelState.headStatus] at e
    rfl
  · obtain ⟨c, first, e⟩ := cycle (get_of_mem tables.tickets he) hs (by simp [status])
    refine ⟨c, ?_, first⟩
    rw [status] at e
    cases state : (s.channel c).state <;> simp [state, ChannelState.headStatus] at e
    · exact .inl rfl
    · exact .inr rfl

theorem IssueLaw.bandLaw {s : Hall} (h : IssueLaw s) (tables : TablesLaw s) : BandLaw s := by
  refine ⟨(forall_list_iff tables.waitQueues (p := fun _ l => BandsRise s.tickets l) (by simp)).mpr h.waitBands,
    fun c => ?_, fun c hc => ?_⟩
  · have := h.queueBands c
    unfold Channel.ordered at this
    split at this
    · exact List.Pairwise.sublist (List.tail_sublist _) this
    · exact this
  · have := h.queueBands c
    unfold Channel.ordered at this
    rwa [if_pos (by rcases hc with hc | hc <;> rw [hc] <;> rfl)] at this

theorem mountLaw_iff {s : Hall} (tables : TablesLaw s) : BindingLaw s ↔ MountLaw s := by
  have entry {e : Nat × Binding} (he : e ∈ s.bindings) := get_of_mem tables.bindings he
  constructor
  · rintro ⟨bound, single, mounted⟩
    refine ⟨fun e b hb => (bound (e, b) (mem_of_get _ _ _ hb)).1, fun e b hb => ?_,
      fun e f b d hb hd => single (e, b) (mem_of_get _ _ _ hb) (f, d) (mem_of_get _ _ _ hd),
      fun slot location view => ?_⟩
    · obtain ⟨-, r, hr, status, location⟩ := bound (e, b) (mem_of_get _ _ _ hb)
      exact mountedAt_eq_some.mpr ⟨r, hr, status, location⟩
    · obtain ⟨r, hr, status, -⟩ := mountedAt_eq_some.mp view
      obtain ⟨f, hf, e⟩ := mounted (slot, r) (mem_of_get _ _ _ hr) status
      exact ⟨f.1, f.2, entry hf, e⟩
  · intro h
    refine ⟨fun e he => ⟨h.machine e.1 e.2 (entry he), ?_⟩,
      fun e he f hf => h.single e.1 f.1 e.2 f.2 (entry he) (entry hf), fun e he status => ?_⟩
    · obtain ⟨r, hr, status, location⟩ := mountedAt_eq_some.mp (h.bound e.1 e.2 (entry he))
      exact ⟨r, hr, status, location⟩
    · obtain ⟨f, b, hb, hs⟩ := h.mounted e.1 e.2.location
        (mountedAt_eq_some.mpr ⟨e.2, get_of_mem tables.records he, status, rfl⟩)
      exact ⟨(f, b), mem_of_get _ _ _ hb, hs⟩

theorem gaugeLaw_iff {s : Hall} (tables : TablesLaw s) : SessionLaw s ↔ GaugeLaw s := by
  constructor
  · rintro ⟨session, tool, single, gauged, active, pending⟩
    refine ⟨session, fun n x slot hx hs => ?_, fun m n x y slot hx hy hs hys => ?_, fun slot hs => ?_, active, pending⟩
    · obtain ⟨state, r, hr, status⟩ := tool n x hx slot hs
      exact ⟨state, gaugingAt_eq_true.mpr ⟨r, hr, status⟩⟩
    · exact single m n x hx y hy (by simp [hs]) (hs.trans hys.symm)
    · obtain ⟨r, hr, status⟩ := gaugingAt_eq_true.mp hs
      exact gauged (slot, r) (mem_of_get _ _ _ hr) status
  · intro h
    refine ⟨h.session, fun n x hx slot hs => ?_, fun m n x hx y hy some_ same => ?_, fun e he status => ?_, h.active,
      h.pending⟩
    · obtain ⟨state, gauging⟩ := h.tool n x slot hx hs
      obtain ⟨r, hr, status⟩ := gaugingAt_eq_true.mp gauging
      exact ⟨state, r, hr, status⟩
    · obtain ⟨slot, hs⟩ := Option.isSome_iff_exists.mp some_
      exact h.single m n x y slot hx hy hs (same ▸ hs)
    · exact h.gauged e.1 (gaugingAt_eq_true.mpr ⟨e.2, get_of_mem tables.records he, status⟩)

/-- The law of the hall is the law of the tables and of the index with the units' parts. -/
theorem hallLaw_iff {s : Hall} : HallLaw s ↔ TablesLaw s ∧ IndexLaw s ∧ UnitsLaw s := by
  constructor
  · intro h
    exact ⟨h.tables, h.index, storeLaw_of_hallLaw h, issueLaw_of_hallLaw h, (mountLaw_iff h.tables).mp h.bindings,
      (gaugeLaw_iff h.tables).mp h.sessions⟩
  · rintro ⟨tables, index, store, issue, mount, gauge⟩
    exact
      { tables
        index
        classes := ⟨(forall_entry_iff tables.classes).mpr store.fullLife,
          (forall_entry_iff (p := fun _ (r : Record) => s.classes.has r.cls = true) tables.records).mpr store.defined,
          (forall_entry_iff (p := fun _ (t : Ticket) => s.classes.has t.cls = true) tables.tickets).mpr issue.defined⟩
        life := (forall_entry_iff (p := fun _ (r : Record) => r.LifeOk) tables.records).mpr store.life
        chains := store.chainLaw tables
        usable := (forall_entry_iff (p := fun cls c => c.usable = s.usableIn cls ∧
          c.low = decide (c.usable < c.policy.minStock)) tables.classes).mpr store.counts
        collections := issue.collectionLaw tables
        promises := issue.promiseLaw tables
        cycles := issue.cycleLaw tables
        bands := issue.bandLaw tables
        bindings := (mountLaw_iff tables).mpr mount
        sessions := (gaugeLaw_iff tables).mpr gauge }

end Sys2Proof.Machine

/-! ## Tickets: what each change of a ticket, a queue or a channel keeps -/

namespace Sys2Proof.Machine

/-! ### Band order -/

theorem band_le_iff (a b : Band) : (a = .stop ∨ b = .stock ∨ a = b) ↔ bandRank a ≤ bandRank b := by
  cases a <;> cases b <;> simp [bandRank]

/-- Band order looks at the bands of the listed tickets alone. -/
theorem BandsRise.of_same {t t' : Table Ticket} {l : List Nat} (h : BandsRise t l)
    (same : ∀ m ∈ l, (t'.get m).map Ticket.band = (t.get m).map Ticket.band) : BandsRise t' l := by
  refine List.Pairwise.imp_of_mem (fun {a b} ha hb rises ta hta tb htb => ?_) h
  obtain ⟨ua, hua, ea⟩ := Option.map_eq_some_iff.mp ((same a ha).symm.trans (Option.map_eq_some_iff.mpr ⟨ta, hta, rfl⟩))
  obtain ⟨ub, hub, eb⟩ := Option.map_eq_some_iff.mp ((same b hb).symm.trans (Option.map_eq_some_iff.mpr ⟨tb, htb, rfl⟩))
  rw [← ea, ← eb]
  exact rises ua hua ub hub

theorem insertByBand_perm (tickets : Table Ticket) (n rank : Nat) (l : List Nat) :
    (insertByBand tickets n rank l).Perm (n :: l) := by
  induction l with
  | nil => exact .refl _
  | cons x rest ih =>
    unfold insertByBand
    split
    · exact .refl _
    · exact (ih.cons x).trans (.swap n x rest)

theorem mem_insertByBand {tickets : Table Ticket} {n rank m : Nat} {l : List Nat} :
    m ∈ insertByBand tickets n rank l ↔ m = n ∨ m ∈ l := by
  rw [(insertByBand_perm tickets n rank l).mem_iff, List.mem_cons]

theorem nodup_insertByBand {tickets : Table Ticket} {n rank : Nat} {l : List Nat} (h : l.Nodup) (hn : n ∉ l) :
    (insertByBand tickets n rank l).Nodup :=
  (insertByBand_perm tickets n rank l).nodup_iff.mpr (List.nodup_cons.mpr ⟨hn, h⟩)

theorem rankOf_eq {tickets : Table Ticket} {n : Nat} {t : Ticket} (h : tickets.get n = some t) :
    rankOf tickets n = bandRank t.band := by simp [rankOf, h]

/-- A ticket placed at the tail of its band keeps a list in band order. -/
theorem BandsRise.insert {tickets : Table Ticket} {n : Nat} {t : Ticket} {l : List Nat} (h : BandsRise tickets l)
    (ht : tickets.get n = some t) : BandsRise tickets (insertByBand tickets n (bandRank t.band) l) := by
  induction l with
  | nil => exact List.pairwise_singleton _ _
  | cons x rest ih =>
    obtain ⟨first, later⟩ := List.pairwise_cons.mp h
    unfold insertByBand
    split
    · rename_i below
      refine List.pairwise_cons.mpr ⟨fun y hy ta hta tb htb => ?_, h⟩
      obtain rfl := Option.some.inj (ht.symm.trans hta)
      rw [band_le_iff]
      obtain ⟨tx, hx⟩ : ∃ tx, tickets.get x = some tx := by
        cases hx : tickets.get x with
        | none => simp [rankOf, hx] at below
        | some tx => exact ⟨tx, rfl⟩
      rw [rankOf_eq hx] at below
      rcases List.mem_cons.mp hy with rfl | hy
      · obtain rfl := Option.some.inj (hx.symm.trans htb)
        omega
      · have := (band_le_iff _ _).mp (first y hy tx hx tb htb)
        omega
    · rename_i above
      refine List.pairwise_cons.mpr ⟨fun y hy => ?_, ih later⟩
      rcases mem_insertByBand.mp hy with rfl | hy
      · intro ta hta tb htb
        obtain rfl := Option.some.inj (ht.symm.trans htb)
        rw [band_le_iff, ← rankOf_eq hta]
        omega
      · exact first y hy

namespace IssueLaw

variable {s t : Hall}

/-! ### Waiting tickets -/

/-- A number that is free stands in no collection. -/
theorem free_nowhere (h : IssueLaw s) {n : Nat} (free : s.tickets.get n = none) :
    (∀ cls, n ∉ s.waitQueues.list cls) ∧ (∀ c, n ∉ (s.channel c).queue) ∧ n ∉ s.handover := by
  refine ⟨fun cls mem => ?_, fun c mem => ?_, fun mem => ?_⟩
  · obtain ⟨x, hx, -⟩ := (h.waiting cls n).mp mem
    simp [free] at hx
  · obtain ⟨-, x, slot, bin, hx, -⟩ := h.queued c n mem
    simp [free] at hx
  · obtain ⟨x, slot, location, hx, -⟩ := h.handed n mem
    simp [free] at hx

/-- A WAITING ticket stands in its class's wait queue alone. -/
theorem waiting_apart (h : IssueLaw s) {n : Nat} {x : Ticket} (hx : s.tickets.get n = some x)
    (status : x.status = .waiting) :
    (∀ c, n ∉ (s.channel c).queue) ∧ n ∉ s.handover ∧ ∀ cls, n ∈ s.waitQueues.list cls ↔ cls = x.cls := by
  refine ⟨fun c mem => ?_, fun mem => ?_, fun cls => ?_⟩
  · obtain ⟨-, y, slot, bin, hy, e, -⟩ := h.queued c n mem
    obtain rfl := Option.some.inj (hx.symm.trans hy)
    have := statusOf_slot (s.channel c) n slot
    rw [← e, status] at this
    cases this
  · obtain ⟨y, slot, location, hy, e, -⟩ := h.handed n mem
    obtain rfl := Option.some.inj (hx.symm.trans hy)
    rw [status] at e
    cases e
  · rw [h.waiting]
    constructor
    · rintro ⟨y, hy, -, rfl⟩
      rw [Option.some.inj (hx.symm.trans hy)]
    · rintro rfl
      exact ⟨x, hx, status, rfl⟩

/-- A free number becomes a WAITING ticket at the tail of its band (R86). -/
theorem addWaiting (h : IssueLaw s) {n : Nat} {x : Ticket} (free : s.tickets.get n = none)
    (status : x.status = .waiting) (cls : s.classes.has x.cls = true)
    (tickets : ∀ m, t.tickets.get m = if n = m then some x else s.tickets.get m)
    (waitQueues : ∀ c, t.waitQueues.list c =
      if x.cls = c then insertByBand t.tickets n (bandRank x.band) (s.waitQueues.list c) else s.waitQueues.list c)
    (channels : t.channels = s.channels) (handover : t.handover = s.handover) (records : t.records = s.records)
    (classes : t.classes = s.classes) : IssueLaw t := by
  obtain ⟨noWait, noQueue, noHand⟩ := h.free_nowhere free
  have channel : ∀ c, t.channel c = s.channel c := fun c => by simp only [Hall.channel, channels]
  have promised : ∀ y, t.promisedAt y = s.promisedAt y := fun y => by simp only [Hall.promisedAt, records]
  have old {m : Nat} (ne : m ≠ n) : t.tickets.get m = s.tickets.get m := by rw [tickets, if_neg ne.symm]
  have own : t.tickets.get n = some x := by rw [tickets, if_pos rfl]
  have bands {l : List Nat} (out : n ∉ l) (rises : BandsRise s.tickets l) : BandsRise t.tickets l :=
    rises.of_same fun m hm => by rw [old fun e => out (e ▸ hm)]
  have slotted {m slot : Nat} {y : Ticket} (hy : t.tickets.get m = some y) (hs : y.status.slot = some slot) :
      s.tickets.get m = some y := by
    by_cases e : m = n
    · subst e
      obtain rfl := Option.some.inj (own.symm.trans hy)
      rw [status] at hs
      cases hs
    · rwa [old e] at hy
  constructor <;> simp -failIfUnchanged only [channel, handover, promised]
  · intro m y hy
    rw [classes]
    by_cases e : m = n
    · subst e
      obtain rfl := Option.some.inj (own.symm.trans hy)
      exact cls
    · exact h.defined m y (old e ▸ hy)
  · intro c m
    rw [waitQueues]
    by_cases e : m = n
    · subst e
      rw [own]
      split
      · subst_vars
        simp [mem_insertByBand, status]
      · rename_i other
        simp [noWait, other]
    · rw [old e]
      split
      · simp [mem_insertByBand, e, h.waiting]
      · exact h.waiting c m
  · intro c
    rw [waitQueues]
    split
    · exact nodup_insertByBand (h.waitNodup c) (noWait c)
    · exact h.waitNodup c
  · intro c
    rw [waitQueues]
    have rises := bands (noWait c) (h.waitBands c)
    split
    · exact rises.insert own
    · exact rises
  · intro c m hm
    rw [old fun e => noQueue c (e ▸ hm)]
    exact h.queued c m hm
  · exact h.queueNodup
  · intro c
    refine bands (fun hm => noQueue c ?_) (h.queueBands c)
    unfold Channel.ordered at hm
    split at hm
    · exact hm
    · exact List.mem_of_mem_tail hm
  · intro m hm
    rw [old fun e => noHand (e ▸ hm)]
    exact h.handed m hm
  · exact h.handNodup
  · exact fun m y slot hy hs => h.placed m y slot (slotted hy hs) hs
  · exact fun m k y z slot hy hz hs hzs => h.single m k y z slot (slotted hy hs) (slotted hz hzs) hs hzs
  · intro slot c location view
    obtain ⟨m, y, hy, hs⟩ := h.held slot c location view
    exact ⟨m, y, by rw [old fun e => by subst e; simp [free] at hy]; exact hy, hs⟩
  · exact h.heads
  · exact h.off

/-- A WAITING ticket leaves its wait queue and becomes free (R99, R103). -/
theorem dropWaiting (h : IssueLaw s) {n : Nat} {x : Ticket} (hx : s.tickets.get n = some x)
    (status : x.status = .waiting) : IssueLaw ((leaveWaitQueue n x.cls s).freeTicket n) := by
  obtain ⟨noQueue, noHand, -⟩ := h.waiting_apart hx status
  have lists (c : Nat) : ((leaveWaitQueue n x.cls s).freeTicket n).waitQueues.list c =
      if x.cls = c then (s.waitQueues.list x.cls).filter (fun m => m != n) else s.waitQueues.list c := list_putList ..
  have tickets (m : Nat) : ((leaveWaitQueue n x.cls s).freeTicket n).tickets.get m =
      if n = m then none else s.tickets.get m := get_del ..
  generalize ht : (leaveWaitQueue n x.cls s).freeTicket n = t at lists tickets
  have channel : ∀ c, t.channel c = s.channel c := fun c => by rw [← ht]; rfl
  have handover : t.handover = s.handover := by rw [← ht]; rfl
  have promised : ∀ y, t.promisedAt y = s.promisedAt y := fun y => by rw [← ht]; rfl
  have classes : t.classes = s.classes := by rw [← ht]; rfl
  have old {m : Nat} (ne : m ≠ n) : t.tickets.get m = s.tickets.get m := by rw [tickets, if_neg ne.symm]
  have still {m : Nat} {y : Ticket} (hy : t.tickets.get m = some y) : s.tickets.get m = some y := by
    rw [tickets] at hy
    split at hy
    · cases hy
    · exact hy
  have bands {l : List Nat} (out : n ∉ l) (rises : BandsRise s.tickets l) : BandsRise t.tickets l :=
    rises.of_same fun m hm => by rw [old fun e => out (e ▸ hm)]
  constructor <;> simp -failIfUnchanged only [channel, handover, promised, classes]
  · exact fun m y hy => h.defined m y (still hy)
  · intro c m
    rw [lists]
    by_cases e : m = n
    · subst e
      rw [tickets, if_pos rfl]
      split
      · simp
      · rename_i other
        simp [(h.waiting_apart hx status).2.2, Ne.symm other]
    · rw [old e]
      split
      · subst_vars
        simp [e, h.waiting]
      · exact h.waiting c m
  · intro c
    rw [lists]
    split
    · exact (h.waitNodup _).filter _
    · exact h.waitNodup c
  · intro c
    rw [lists]
    split
    · exact bands (by simp) (List.Pairwise.filter _ (h.waitBands _))
    · rename_i other
      exact bands (by simp [(h.waiting_apart hx status).2.2, Ne.symm other]) (h.waitBands c)
  · intro c m hm
    rw [old fun e => noQueue c (e ▸ hm)]
    exact h.queued c m hm
  · exact h.queueNodup
  · intro c
    refine bands (fun hm => noQueue c ?_) (h.queueBands c)
    unfold Channel.ordered at hm
    split at hm
    · exact hm
    · exact List.mem_of_mem_tail hm
  · intro m hm
    rw [old fun e => noHand (e ▸ hm)]
    exact h.handed m hm
  · exact h.handNodup
  · exact fun m y slot hy hs => h.placed m y slot (still hy) hs
  · exact fun m k y z slot hy hz hs hzs => h.single m k y z slot (still hy) (still hz) hs hzs
  · intro slot c location view
    obtain ⟨m, y, hy, hs⟩ := h.held slot c location view
    refine ⟨m, y, ?_, hs⟩
    rw [old fun e => ?_]
    · exact hy
    · subst e
      obtain rfl := Option.some.inj (hx.symm.trans hy)
      rw [status] at hs
      cases hs
  · exact h.heads
  · exact h.off

/-- A ticket is rewritten in what no queue sees. -/
theorem retag (h : IssueLaw s) {n : Nat} {x x' : Ticket} (hx : s.tickets.get n = some x) (status : x'.status = x.status)
    (cls : x'.cls = x.cls) (band : x'.band = x.band) : IssueLaw (s.putTicket n x') := by
  have tickets (m : Nat) : (s.putTicket n x').tickets.get m = if n = m then some x' else s.tickets.get m := get_put ..
  generalize ht : s.putTicket n x' = t at tickets
  have channel : ∀ c, t.channel c = s.channel c := fun c => by rw [← ht]; rfl
  have handover : t.handover = s.handover := by rw [← ht]; rfl
  have waitQueues : t.waitQueues = s.waitQueues := by rw [← ht]; rfl
  have promised : ∀ y, t.promisedAt y = s.promisedAt y := fun y => by rw [← ht]; rfl
  have classes : t.classes = s.classes := by rw [← ht]; rfl
  have forth {m : Nat} {y : Ticket} (hy : s.tickets.get m = some y) :
      ∃ y', t.tickets.get m = some y' ∧ y'.status = y.status ∧ y'.cls = y.cls ∧ y'.band = y.band := by
    rw [tickets]
    split
    · subst_vars
      obtain rfl := Option.some.inj (hx.symm.trans hy)
      exact ⟨x', rfl, status, cls, band⟩
    · exact ⟨y, hy, rfl, rfl, rfl⟩
  have back {m : Nat} {y : Ticket} (hy : t.tickets.get m = some y) :
      ∃ y', s.tickets.get m = some y' ∧ y.status = y'.status ∧ y.cls = y'.cls := by
    rw [tickets] at hy
    split at hy
    · cases hy
      subst_vars
      exact ⟨x, hx, status, cls⟩
    · exact ⟨y, hy, rfl, rfl⟩
  have bands {l : List Nat} (rises : BandsRise s.tickets l) : BandsRise t.tickets l :=
    rises.of_same fun m hm => by
      rw [tickets]
      split
      · subst_vars
        simp [hx, band]
      · rfl
  constructor <;> simp -failIfUnchanged only [channel, handover, waitQueues, promised, classes]
  · intro m y hy
    obtain ⟨y', hy', -, e⟩ := back hy
    rw [e]
    exact h.defined m y' hy'
  · intro c m
    rw [h.waiting]
    constructor
    · rintro ⟨y, hy, e, rfl⟩
      obtain ⟨y', hy', es, ec, -⟩ := forth hy
      exact ⟨y', hy', es.trans e, ec⟩
    · rintro ⟨y, hy, e, rfl⟩
      obtain ⟨y', hy', es, ec⟩ := back hy
      exact ⟨y', hy', es ▸ e, ec.symm⟩
  · exact h.waitNodup
  · exact fun c => bands (h.waitBands c)
  · intro c m hm
    obtain ⟨enabled, y, slot, bin, hy, e, view⟩ := h.queued c m hm
    obtain ⟨y', hy', es, ec, -⟩ := forth hy
    exact ⟨enabled, y', slot, bin, hy', es.trans e, by rw [ec]; exact view⟩
  · exact h.queueNodup
  · exact fun c => bands (h.queueBands c)
  · intro m hm
    obtain ⟨y, slot, location, hy, e, view, outside⟩ := h.handed m hm
    obtain ⟨y', hy', es, ec, -⟩ := forth hy
    exact ⟨y', slot, location, hy', es.trans e, by rw [ec]; exact view, outside⟩
  · exact h.handNodup
  · intro m y slot hy hs
    obtain ⟨y', hy', es, -⟩ := back hy
    exact h.placed m y' slot hy' (es ▸ hs)
  · intro m k y z slot hy hz hs hzs
    obtain ⟨y', hy', es, -⟩ := back hy
    obtain ⟨z', hz', ez, -⟩ := back hz
    exact h.single m k y' z' slot hy' hz' (es ▸ hs) (ez ▸ hzs)
  · intro slot c location view
    obtain ⟨m, y, hy, hs⟩ := h.held slot c location view
    obtain ⟨y', hy', es, -⟩ := forth hy
    exact ⟨m, y', hy', es ▸ hs⟩
  · exact h.heads
  · exact h.off

end IssueLaw

end Sys2Proof.Machine

namespace Sys2Proof.Machine

/-! ### Promised tickets -/

theorem mem_of_mem_ordered {x : Channel} {n : Nat} (h : n ∈ x.ordered) : n ∈ x.queue := by
  unfold Channel.ordered at h
  split at h
  · exact h
  · exact List.mem_of_mem_tail h

theorem headStatus_inCycle {tickets : Table Ticket} {n slot : Nat} {t : Ticket} {x : ChannelState}
    (ht : tickets.get n = some t) (status : t.status = x.headStatus slot) : inCycle tickets n = !x.settled := by
  cases x <;> simp [inCycle, ht, status, ChannelState.headStatus, ChannelState.settled]

namespace IssueLaw

variable {s t : Hall}

/-- A free number becomes a PROMISED ticket in the collection that the record's location gives it: the queue of the
drawer's enabled channel, or the handover list. -/
theorem addPromised (h : IssueLaw s) {n slot : Nat} {x : Ticket} {location : Location} {place : Option (Fin 16)}
    (free : s.tickets.get n = none) (unheld : s.promisedAt slot = none) (status : x.status = .promised slot)
    (cls : s.classes.has x.cls = true) (classes : t.classes = s.classes)
    (tickets : ∀ m, t.tickets.get m = if n = m then some x else s.tickets.get m)
    (promised : ∀ y, t.promisedAt y = if slot = y then some (x.cls, location) else s.promisedAt y)
    (waitQueues : ∀ c, t.waitQueues.list c = s.waitQueues.list c)
    (drawer : ∀ c, place = some c → ∃ bin, location = .drawer c bin ∧ (s.channel c).enabled = true)
    (loose : place = none → ∀ c bin, location = .drawer c bin → (s.channel c).enabled = false)
    (state : ∀ c, (t.channel c).state = (s.channel c).state)
    (enabled : ∀ c, (t.channel c).enabled = (s.channel c).enabled)
    (queues : ∀ c, (t.channel c).queue = if place = some c then
      channelQueueInsert t.tickets n (bandRank x.band) (s.channel c).queue else (s.channel c).queue)
    (handover : t.handover = if place = none then s.handover ++ [n] else s.handover) : IssueLaw t := by
  obtain ⟨noWait, noQueue, noHand⟩ := h.free_nowhere free
  have old {m : Nat} (ne : m ≠ n) : t.tickets.get m = s.tickets.get m := by rw [tickets, if_neg ne.symm]
  have own : t.tickets.get n = some x := by rw [tickets, if_pos rfl]
  have ownSlot : x.status.slot = some slot := by rw [status]; rfl
  have bands {l : List Nat} (out : n ∉ l) (rises : BandsRise s.tickets l) : BandsRise t.tickets l :=
    rises.of_same fun m hm => by rw [old fun e => out (e ▸ hm)]
  have other {m y : Nat} {u : Ticket} (hu : s.tickets.get m = some u) (hs : u.status.slot = some y) : slot ≠ y := by
    rintro rfl
    obtain ⟨l, view⟩ := h.holds hu hs
    rw [unheld] at view
    cases view
  have kept {y cy : Nat} {l : Location} (view : s.promisedAt y = some (cy, l)) : t.promisedAt y = some (cy, l) := by
    rw [promised, if_neg, view]
    rintro rfl
    rw [unheld] at view
    cases view
  -- The queue that the ticket joins: whole and in order without a cycle, else behind the head of the cycle.
  have joined (c : Fin 16) (hc : place = some c) :
      (t.channel c).ordered = insertByBand t.tickets n (bandRank x.band) (s.channel c).ordered ∧
      (t.channel c).queue.Perm (n :: (s.channel c).queue) ∧
      ((s.channel c).state.settled = false → (t.channel c).queue.head? = (s.channel c).queue.head?) := by
    have q := queues c
    rw [if_pos hc] at q
    unfold Channel.ordered
    rw [state c, q]
    cases hq : (s.channel c).queue with
    | nil =>
      have settled : (s.channel c).state.settled = true := by
        by_contra e
        exact h.heads c (by simpa using e) hq
      simp [settled, channelQueueInsert, insertByBand]
    | cons m rest =>
      obtain ⟨-, u, y, bin, hu, e, -⟩ := h.queued c m (by rw [hq]; exact List.mem_cons_self)
      have hu' : t.tickets.get m = some u := by
        rw [old]
        · exact hu
        · rintro rfl
          exact noQueue c (by rw [hq]; exact List.mem_cons_self)
      have cycle := headStatus_inCycle hu' (x := (s.channel c).state)
        (slot := y) (by rw [e, Channel.statusOf, hq, List.head?_cons, if_pos rfl])
      unfold channelQueueInsert
      dsimp only
      rw [cycle]
      cases (s.channel c).state.settled with
      | true => simpa using insertByBand_perm _ _ _ _
      | false => simpa using ((insertByBand_perm t.tickets n (bandRank x.band) rest).cons m).trans (.swap n m rest)
  have members (c : Fin 16) (m : Nat) :
      m ∈ (t.channel c).queue ↔ m ∈ (s.channel c).queue ∨ (m = n ∧ place = some c) := by
    by_cases hc : place = some c
    · rw [(joined c hc).2.1.mem_iff, List.mem_cons]
      simp [hc, or_comm]
    · rw [queues, if_neg hc]
      simp [hc]
  have statuses (c : Fin 16) (m y : Nat) : (t.channel c).statusOf m y =
      if m = n then .promised y else (s.channel c).statusOf m y := by
    cases settled : (s.channel c).state.settled with
    | true => rw [statusOf_settled (by rw [state, settled]), statusOf_settled settled, ite_self]
    | false =>
      have head : (t.channel c).queue.head? = (s.channel c).queue.head? := by
        by_cases hc : place = some c
        · exact (joined c hc).2.2 settled
        · rw [queues, if_neg hc]
      unfold Channel.statusOf
      rw [head, state]
      split
      · rename_i first
        rw [if_neg]
        rintro rfl
        exact noQueue c (List.mem_of_mem_head? first)
      · rw [ite_self]
  have back {m y : Nat} {u : Ticket} (hu : t.tickets.get m = some u) (hs : u.status.slot = some y) :
      (m = n ∧ u = x ∧ y = slot) ∨ (m ≠ n ∧ s.tickets.get m = some u ∧ y ≠ slot) := by
    by_cases e : m = n
    · subst e
      obtain rfl := Option.some.inj (own.symm.trans hu)
      exact .inl ⟨rfl, rfl, Option.some.inj (hs.symm.trans ownSlot)⟩
    · rw [old e] at hu
      exact .inr ⟨e, hu, (other hu hs).symm⟩
  have handMembers (m : Nat) : m ∈ t.handover ↔ m ∈ s.handover ∨ (m = n ∧ place = none) := by
    rw [handover]
    split <;> simp_all
  refine
    { defined := fun m u hu => ?_
      waiting := fun c m => ?_
      waitNodup := fun c => by rw [waitQueues]; exact h.waitNodup c
      waitBands := fun c => by rw [waitQueues]; exact bands (noWait c) (h.waitBands c)
      queued := fun c m hm => ?_
      queueNodup := fun c => ?_
      queueBands := fun c => ?_
      handed := fun m hm => ?_
      handNodup := ?_
      placed := fun m u y hu hs => ?_
      single := fun m k u v y hu hv hs hvs => ?_
      held := fun y c l view => ?_
      heads := fun c hc => ?_
      off := fun c => by rw [state, enabled]; exact h.off c }
  · rw [classes]
    by_cases e : m = n
    · subst e
      obtain rfl := Option.some.inj (own.symm.trans hu)
      exact cls
    · exact h.defined m u (old e ▸ hu)
  · rw [waitQueues]
    by_cases e : m = n
    · subst e
      simp [own, status, noWait]
    · rw [old e]
      exact h.waiting c m
  · rcases (members c m).mp hm with hm | ⟨rfl, hc⟩
    · obtain ⟨on, u, y, bin, hu, e, view⟩ := h.queued c m hm
      have ne : m ≠ n := fun e => noQueue c (e ▸ hm)
      exact ⟨by rw [enabled, on], u, y, bin, by rw [old ne, hu], by rw [statuses, if_neg ne, e], kept view⟩
    · obtain ⟨bin, rfl, on⟩ := drawer c hc
      exact ⟨by rw [enabled, on], x, slot, bin, own, by rw [statuses, if_pos rfl, status],
        by rw [promised, if_pos rfl]⟩
  · by_cases hc : place = some c
    · exact (joined c hc).2.1.nodup_iff.mpr (List.nodup_cons.mpr ⟨noQueue c, h.queueNodup c⟩)
    · rw [queues, if_neg hc]
      exact h.queueNodup c
  · have before := bands (fun hm => noQueue c (mem_of_mem_ordered hm)) (h.queueBands c)
    by_cases hc : place = some c
    · rw [(joined c hc).1]
      exact before.insert own
    · unfold Channel.ordered at before ⊢
      rw [state, queues, if_neg hc]
      exact before
  · rcases (handMembers m).mp hm with hm | ⟨rfl, hp⟩
    · obtain ⟨u, y, l, hu, e, view, outside⟩ := h.handed m hm
      exact ⟨u, y, l, by rw [old fun e => noHand (e ▸ hm), hu], e, kept view, fun c bin hl => by
        rw [enabled]; exact outside c bin hl⟩
    · exact ⟨x, slot, location, own, status, by rw [promised, if_pos rfl], fun c bin hl => by
        rw [enabled]; exact loose hp c bin hl⟩
  · rw [handover]
    split
    · rw [List.nodup_append]
      refine ⟨h.handNodup, List.nodup_singleton n, fun a ha b hb e => noHand ?_⟩
      rw [List.mem_singleton] at hb
      rwa [← hb, ← e]
    · exact h.handNodup
  · rcases back hu hs with ⟨rfl, -, -⟩ | ⟨-, hu, -⟩
    · cases hp : place with
      | none => exact .inl ((handMembers m).mpr (.inr ⟨rfl, hp⟩))
      | some c => exact .inr ⟨c, (members c m).mpr (.inr ⟨rfl, hp⟩)⟩
    · rcases h.placed m u y hu hs with hand | ⟨c, hc⟩
      · exact .inl ((handMembers m).mpr (.inl hand))
      · exact .inr ⟨c, (members c m).mpr (.inl hc)⟩
  · rcases back hu hs with ⟨rfl, -, rfl⟩ | ⟨-, hu, ne⟩ <;> rcases back hv hvs with ⟨rfl, -, e⟩ | ⟨-, hv, ne'⟩
    · rfl
    · exact absurd rfl ne'
    · exact absurd e ne
    · exact h.single m k u v y hu hv hs hvs
  · rw [promised] at view
    split at view
    · subst_vars
      exact ⟨n, x, own, ownSlot⟩
    · obtain ⟨m, u, hu, hs⟩ := h.held y c l view
      exact ⟨m, u, by rw [old fun e => by subst e; simp [free] at hu]; exact hu, hs⟩
  · rw [state] at hc
    intro empty
    have := h.heads c hc
    by_cases hp : place = some c
    · have := (joined c hp).2.1.length_eq
      simp [empty] at this
    · rw [queues, if_neg hp] at empty
      exact this empty

/-- A ticket that holds a slot leaves its collection and becomes free, and its record is PROMISED no more. A channel whose
cycle it headed is left without one. -/
theorem remove (h : IssueLaw s) {n slot : Nat} {x : Ticket} (hx : s.tickets.get n = some x)
    (hs : x.status.slot = some slot)
    (classes : ∀ c, s.classes.has c = true → t.classes.has c = true)
    (tickets : ∀ m, t.tickets.get m = if n = m then none else s.tickets.get m)
    (promised : ∀ y, t.promisedAt y = if slot = y then none else s.promisedAt y)
    (waitQueues : t.waitQueues = s.waitQueues)
    (handover : t.handover = s.handover.filter fun m => m != n)
    (queues : ∀ c, (t.channel c).queue = (s.channel c).queue.filter fun m => m != n)
    (enabled : ∀ c, (t.channel c).enabled = (s.channel c).enabled)
    (state : ∀ c, (t.channel c).state =
      if (s.channel c).state.settled = false ∧ (s.channel c).queue.head? = some n then .forced
      else (s.channel c).state) : IssueLaw t := by
  have still {m : Nat} {u : Ticket} (hu : t.tickets.get m = some u) : m ≠ n ∧ s.tickets.get m = some u := by
    rw [tickets] at hu
    split at hu
    · cases hu
    · rename_i ne
      exact ⟨Ne.symm ne, hu⟩
  have old {m : Nat} (ne : m ≠ n) : t.tickets.get m = s.tickets.get m := by rw [tickets, if_neg ne.symm]
  have other {m y : Nat} {u : Ticket} (ne : m ≠ n) (hu : s.tickets.get m = some u) (hus : u.status.slot = some y) :
      slot ≠ y := fun e => ne (h.single m n u x y hu hx hus (e ▸ hs))
  have bands {l : List Nat} (rises : BandsRise s.tickets l) : BandsRise t.tickets (l.filter fun m => m != n) :=
    BandsRise.of_same (List.Pairwise.filter _ rises) fun m hm => by
      rw [old (by simpa using (List.mem_filter.mp hm).2)]
  have noWait (c : Nat) : n ∉ s.waitQueues.list c := fun hm => by
    obtain ⟨u, hu, status, -⟩ := (h.waiting c n).mp hm
    obtain rfl := Option.some.inj (hx.symm.trans hu)
    rw [status] at hs
    cases hs
  -- A channel goes on with the head it had, or is left with no cycle.
  have heads (c : Fin 16) (on : (t.channel c).state.settled = false) :
      (t.channel c).state = (s.channel c).state ∧
        ∃ m rest, m ≠ n ∧ (s.channel c).queue = m :: rest ∧
          (t.channel c).queue = m :: rest.filter fun m => m != n := by
    have e := state c
    by_cases cond : (s.channel c).state.settled = false ∧ (s.channel c).queue.head? = some n
    · rw [if_pos cond] at e
      rw [e] at on
      cases on
    · rw [if_neg cond] at e
      rw [e] at on
      obtain ⟨m, rest, hq⟩ := List.exists_cons_of_ne_nil (h.heads c on)
      have ne : m ≠ n := fun hm => cond ⟨on, by rw [hq, hm]; rfl⟩
      exact ⟨e, m, rest, ne, hq, by rw [queues, hq, List.filter_cons, if_pos (by simpa using ne)]⟩
  have statuses (c : Fin 16) {m : Nat} (ne : m ≠ n) (y : Nat) :
      (t.channel c).statusOf m y = (s.channel c).statusOf m y := by
    cases settled : (t.channel c).state.settled with
    | false =>
      obtain ⟨e, k, rest, -, hq, hq'⟩ := heads c settled
      simp only [Channel.statusOf, e, hq, hq', List.head?_cons]
    | true =>
      rw [statusOf_settled settled]
      by_cases cond : (s.channel c).state.settled = false ∧ (s.channel c).queue.head? = some n
      · exact (statusOf_other (by rw [cond.2]; simpa using ne.symm) y).symm
      · rw [state, if_neg cond] at settled
        rw [statusOf_settled settled]
  refine
    { defined := fun m u hu => classes _ (h.defined m u (still hu).2)
      waiting := fun c m => ?_
      waitNodup := fun c => by rw [waitQueues]; exact h.waitNodup c
      waitBands := fun c => ?_
      queued := fun c m hm => ?_
      queueNodup := fun c => by rw [queues]; exact (h.queueNodup c).filter _
      queueBands := fun c => ?_
      handed := fun m hm => ?_
      handNodup := by rw [handover]; exact h.handNodup.filter _
      placed := fun m u y hu hus => ?_
      single := fun m k u v y hu hv => h.single m k u v y (still hu).2 (still hv).2
      held := fun y c l view => ?_
      heads := fun c on => ?_
      off := fun c => ?_ }
  · rw [waitQueues, h.waiting]
    constructor
    · rintro ⟨u, hu, status, rfl⟩
      have ne : m ≠ n := fun e => noWait u.cls (e ▸ (h.waiting _ _).mpr ⟨u, hu, status, rfl⟩)
      exact ⟨u, by rw [old ne, hu], status, rfl⟩
    · rintro ⟨u, hu, status, rfl⟩
      exact ⟨u, (still hu).2, status, rfl⟩
  · rw [waitQueues]
    exact (h.waitBands c).of_same fun m hm => by rw [old fun e => noWait c (e ▸ hm)]
  · rw [queues, List.mem_filter] at hm
    have ne : m ≠ n := by simpa using hm.2
    obtain ⟨on, u, y, bin, hu, e, view⟩ := h.queued c m hm.1
    exact ⟨by rw [enabled, on], u, y, bin, by rw [old ne, hu], by rw [statuses c ne, e],
      by rw [promised, if_neg (other ne hu (by rw [e, statusOf_slot])), view]⟩
  · have before := h.queueBands c
    cases settled : (t.channel c).state.settled with
    | false =>
      obtain ⟨e, k, rest, -, hq, hq'⟩ := heads c settled
      simp only [Channel.ordered, ← e, settled, hq, Bool.false_eq_true, if_false, List.tail_cons] at before
      simp only [Channel.ordered, settled, hq', Bool.false_eq_true, if_false, List.tail_cons]
      exact bands before
    | true =>
      simp only [Channel.ordered, settled, if_true]
      rw [queues]
      by_cases cond : (s.channel c).state.settled = false ∧ (s.channel c).queue.head? = some n
      · obtain ⟨rest, hq⟩ : ∃ rest, (s.channel c).queue = n :: rest := by
          cases hq : (s.channel c).queue with
          | nil => simp [hq] at cond
          | cons k rest => exact ⟨rest, by simpa [hq] using cond.2⟩
        simp only [Channel.ordered, cond.1, hq, Bool.false_eq_true, if_false, List.tail_cons] at before
        rw [hq, List.filter_cons, if_neg (by simp)]
        exact bands before
      · rw [state, if_neg cond] at settled
        simp only [Channel.ordered, settled, if_true] at before
        exact bands before
  · rw [handover, List.mem_filter] at hm
    have ne : m ≠ n := by simpa using hm.2
    obtain ⟨u, y, l, hu, e, view, outside⟩ := h.handed m hm.1
    exact ⟨u, y, l, by rw [old ne, hu], e, by rw [promised, if_neg (other ne hu (by rw [e]; rfl)), view],
      fun c bin hl => by rw [enabled]; exact outside c bin hl⟩
  · obtain ⟨ne, hu⟩ := still hu
    rcases h.placed m u y hu hus with hand | ⟨c, hc⟩
    · exact .inl (by rw [handover, List.mem_filter]; exact ⟨hand, by simpa using ne⟩)
    · exact .inr ⟨c, by rw [queues, List.mem_filter]; exact ⟨hc, by simpa using ne⟩⟩
  · rw [promised] at view
    split at view
    · cases view
    · rename_i different
      obtain ⟨m, u, hu, hus⟩ := h.held y c l view
      have ne : m ≠ n := by
        rintro rfl
        obtain rfl := Option.some.inj (hx.symm.trans hu)
        exact different (Option.some.inj (hs.symm.trans hus))
      exact ⟨m, u, by rw [old ne, hu], hus⟩
  · obtain ⟨-, m, rest, -, -, hq⟩ := heads c on
    simp [hq]
  · rw [enabled, ← h.off c, state]
    split
    · rename_i cond
      constructor
      · intro e; cases e
      · intro e
        rw [e] at cond
        cases cond.1
    · rfl

/-- A cycle starts or its drawer is opened: the channel moves on to a state with a cycle, and its head with it. -/
theorem headMoves (h : IssueLaw s) {c : Fin 16} {n slot : Nat} {x : Ticket} {state : ChannelState}
    (head : (s.channel c).queue.head? = some n) (hx : s.tickets.get n = some x) (hs : x.status.slot = some slot)
    (cycle : state.settled = false)
    (classes : t.classes = s.classes)
    (tickets : ∀ m, t.tickets.get m = if n = m then some { x with status := state.headStatus slot } else s.tickets.get m)
    (promised : ∀ y, t.promisedAt y = s.promisedAt y) (waitQueues : t.waitQueues = s.waitQueues)
    (handover : t.handover = s.handover)
    (queues : ∀ d, (t.channel d).queue = (s.channel d).queue)
    (enabled : ∀ d, (t.channel d).enabled = (s.channel d).enabled)
    (states : ∀ d, (t.channel d).state = if c = d then state else (s.channel d).state) : IssueLaw t := by
  have mem : n ∈ (s.channel c).queue := List.mem_of_mem_head? head
  have on : (s.channel c).enabled = true := (h.queued c n mem).1
  have old {m : Nat} (ne : m ≠ n) : t.tickets.get m = s.tickets.get m := by rw [tickets, if_neg ne.symm]
  have own : t.tickets.get n = some { x with status := state.headStatus slot } := by rw [tickets, if_pos rfl]
  have forth {m : Nat} {u : Ticket} (hu : s.tickets.get m = some u) :
      ∃ u', t.tickets.get m = some u' ∧ u'.cls = u.cls ∧ u'.band = u.band ∧ u'.status.slot = u.status.slot ∧
        (m ≠ n → u' = u) := by
    by_cases e : m = n
    · subst e
      obtain rfl := Option.some.inj (hx.symm.trans hu)
      exact ⟨_, own, rfl, rfl, by rw [headStatus_slot, hs], fun ne => absurd rfl ne⟩
    · exact ⟨u, by rw [old e, hu], rfl, rfl, rfl, fun _ => rfl⟩
  have back {m : Nat} {u : Ticket} (hu : t.tickets.get m = some u) :
      ∃ u', s.tickets.get m = some u' ∧ u'.cls = u.cls ∧ u'.status.slot = u.status.slot ∧ (m ≠ n → u' = u) := by
    by_cases e : m = n
    · subst e
      obtain rfl := Option.some.inj (own.symm.trans hu)
      exact ⟨x, hx, rfl, by rw [headStatus_slot, hs], fun ne => absurd rfl ne⟩
    · exact ⟨u, by rw [← old e, hu], rfl, rfl, fun _ => rfl⟩
  have bands {l : List Nat} (rises : BandsRise s.tickets l) : BandsRise t.tickets l :=
    rises.of_same fun m _ => by
      rw [tickets]
      split
      · subst_vars
        simp [hx]
      · rfl
  have noWait (k : Nat) : n ∉ s.waitQueues.list k := fun hm => by
    obtain ⟨u, hu, status, -⟩ := (h.waiting k n).mp hm
    obtain rfl := Option.some.inj (hx.symm.trans hu)
    rw [status] at hs
    cases hs
  have noHand : n ∉ s.handover := (h.apart mem).1
  have statuses (d : Fin 16) {m : Nat} (ne : m ≠ n) (y : Nat) :
      (t.channel d).statusOf m y = (s.channel d).statusOf m y := by
    by_cases e : c = d
    · subst e
      have notHead : (s.channel c).queue.head? ≠ some m := by rw [head]; simpa using ne.symm
      rw [statusOf_other notHead, statusOf_other (by rw [queues]; exact notHead)]
    · simp only [Channel.statusOf, queues, states, if_neg e]
  refine
    { defined := fun m u hu => ?_
      waiting := fun k m => ?_
      waitNodup := fun k => by rw [waitQueues]; exact h.waitNodup k
      waitBands := fun k => by rw [waitQueues]; exact bands (h.waitBands k)
      queued := fun d m hm => ?_
      queueNodup := fun d => by rw [queues]; exact h.queueNodup d
      queueBands := fun d => ?_
      handed := fun m hm => ?_
      handNodup := by rw [handover]; exact h.handNodup
      placed := fun m u y hu hus => ?_
      single := fun m k u v y hu hv hus hvs => ?_
      held := fun y k l view => ?_
      heads := fun d hd => ?_
      off := fun d => ?_ }
  · obtain ⟨u', hu', e, -⟩ := back hu
    rw [classes, ← e]
    exact h.defined m u' hu'
  · rw [waitQueues]
    by_cases e : m = n
    · subst e
      rw [own]
      simp only [noWait, false_iff]
      rintro ⟨u, ⟨⟩, status, -⟩
      have := headStatus_slot state slot
      rw [show state.headStatus slot = .waiting from status] at this
      cases this
    · rw [old e]
      exact h.waiting k m
  · rw [queues] at hm
    obtain ⟨live, u, y, bin, hu, status, view⟩ := h.queued d m hm
    rw [enabled]
    by_cases e : m = n
    · subst e
      obtain rfl := (h.apart hm).2 c mem
      obtain rfl := Option.some.inj (hx.symm.trans hu)
      obtain rfl : slot = y := Option.some.inj (hs.symm.trans (by rw [status, statusOf_slot]))
      exact ⟨live, _, slot, bin, own, by rw [Channel.statusOf, queues, if_pos head, states, if_pos rfl],
        by rw [promised, view]⟩
    · exact ⟨live, u, y, bin, by rw [old e, hu], by rw [statuses d e, status], by rw [promised, view]⟩
  · have before := h.queueBands d
    unfold Channel.ordered at before ⊢
    rw [queues, states]
    by_cases e : c = d
    · subst e
      rw [if_pos rfl, cycle]
      split at before
      · exact bands (List.Pairwise.sublist (List.tail_sublist _) before)
      · exact bands before
    · rw [if_neg e]
      exact bands before
  · rw [handover] at hm
    obtain ⟨u, y, l, hu, status, view, outside⟩ := h.handed m hm
    exact ⟨u, y, l, by rw [old fun e => noHand (e ▸ hm), hu], status, by rw [promised, view],
      fun d bin hl => by rw [enabled]; exact outside d bin hl⟩
  · obtain ⟨u', hu', -, e, -⟩ := back hu
    rw [handover]
    simp only [queues]
    exact h.placed m u' y hu' (e.trans hus)
  · obtain ⟨u', hu', -, eu, -⟩ := back hu
    obtain ⟨v', hv', -, ev, -⟩ := back hv
    exact h.single m k u' v' y hu' hv' (eu.trans hus) (ev.trans hvs)
  · rw [promised] at view
    obtain ⟨m, u, hu, hus⟩ := h.held y k l view
    obtain ⟨u', hu', -, -, e, -⟩ := forth hu
    exact ⟨m, u', hu', e.trans hus⟩
  · rw [queues]
    by_cases e : c = d
    · subst e
      exact List.ne_nil_of_mem mem
    · rw [states, if_neg e] at hd
      exact h.heads d hd
  · rw [enabled, states]
    split
    · subst_vars
      rw [on]
      constructor
      · rintro rfl; cases cycle
      · intro e; cases e
    · exact h.off d

/-! ### Channels -/

theorem sameHead_settled {x y : ChannelState} (h : x.sameHead y) : y.settled = x.settled := by
  rcases h with rfl | ⟨rfl, rfl⟩ | ⟨rfl, rfl⟩ | ⟨rfl, rfl⟩ <;> rfl

theorem sameHead_headStatus {x y : ChannelState} (h : x.sameHead y) (slot : Nat) :
    y.headStatus slot = x.headStatus slot := by
  rcases h with rfl | ⟨rfl, rfl⟩ | ⟨rfl, rfl⟩ | ⟨rfl, rfl⟩ <;> rfl

theorem sameHead_off {x y : ChannelState} (h : x.sameHead y) : y = .off ↔ x = .off := by
  rcases h with rfl | ⟨rfl, rfl⟩ | ⟨rfl, rfl⟩ | ⟨rfl, rfl⟩ <;> simp

/-- Channels are rewritten in what no ticket sees. -/
theorem channelsAlike (h : IssueLaw s) (alike : ∀ c, (s.channel c).Alike (t.channel c)) (tickets : t.tickets = s.tickets)
    (waitQueues : t.waitQueues = s.waitQueues) (handover : t.handover = s.handover) (records : t.records = s.records)
    (classes : t.classes = s.classes) : IssueLaw t := by
  have promised : ∀ y, t.promisedAt y = s.promisedAt y := fun y => by simp only [Hall.promisedAt, records]
  have queue (c : Fin 16) := (alike c).queue
  have enabled (c : Fin 16) := (alike c).enabled
  have status (c : Fin 16) (n slot : Nat) : (t.channel c).statusOf n slot = (s.channel c).statusOf n slot := by
    simp only [Channel.statusOf, queue, sameHead_headStatus (alike c).state]
  have ordered (c : Fin 16) : (t.channel c).ordered = (s.channel c).ordered := by
    simp only [Channel.ordered, queue, sameHead_settled (alike c).state]
  have settled (c : Fin 16) := sameHead_settled (alike c).state
  have off (c : Fin 16) := sameHead_off (alike c).state
  constructor <;>
    simp -failIfUnchanged only [tickets, waitQueues, handover, classes, promised, queue, enabled, status, ordered, settled,
      off]
  exacts [h.defined, h.waiting, h.waitNodup, h.waitBands, h.queued, h.queueNodup, h.queueBands, h.handed, h.handNodup,
    h.placed, h.single, h.held, h.heads, h.off]

/-- A channel without tickets is enabled, IDLE, or disabled, OFF; no ticket of the handover list lies in the drawer of one
that is enabled. -/
theorem switch (h : IssueLaw s) {c : Fin 16} {x : Channel} (empty : (s.channel c).queue = []) (queue : x.queue = [])
    (state : x.state = if x.enabled then .idle else .off)
    (hand : x.enabled = true → ∀ n t slot cls bin, n ∈ s.handover → s.tickets.get n = some t →
      t.status = .promised slot → s.promisedAt slot ≠ some (cls, .drawer c bin)) : IssueLaw (s.setChannel c x) := by
  have own : (s.setChannel c x).channel c = x := setChannel_channel s c x
  have other {d : Fin 16} (ne : c ≠ d) : (s.setChannel c x).channel d = s.channel d := setChannel_channel_ne s c d x ne
  have queues (d : Fin 16) : ((s.setChannel c x).channel d).queue = (s.channel d).queue := by
    by_cases e : c = d
    · subst e; rw [own, queue, empty]
    · rw [other e]
  have settled : x.state.settled = true := by rw [state]; split <;> rfl
  generalize ht : s.setChannel c x = t at own other queues
  have promised : ∀ y, t.promisedAt y = s.promisedAt y := fun y => by rw [← ht]; rfl
  have tickets : t.tickets = s.tickets := by rw [← ht]; rfl
  have waitQueues : t.waitQueues = s.waitQueues := by rw [← ht]; rfl
  have handover : t.handover = s.handover := by rw [← ht]; rfl
  have classes : t.classes = s.classes := by rw [← ht]; rfl
  constructor <;> simp -failIfUnchanged only [tickets, waitQueues, handover, classes, promised, queues]
  · exact h.defined
  · exact h.waiting
  · exact h.waitNodup
  · exact h.waitBands
  · intro d n hn
    have ne : c ≠ d := by rintro rfl; rw [empty] at hn; cases hn
    rw [other ne]
    exact h.queued d n hn
  · exact h.queueNodup
  · intro d
    by_cases e : c = d
    · subst e
      rw [own]
      simp [Channel.ordered, queue]
    · rw [other e]
      exact h.queueBands d
  · intro n hn
    obtain ⟨u, slot, location, hu, status, view, outside⟩ := h.handed n hn
    refine ⟨u, slot, location, hu, status, view, fun d bin hl => ?_⟩
    by_cases e : c = d
    · subst e
      rw [own]
      cases on : x.enabled with
      | false => rfl
      | true => exact absurd (hl ▸ view) (hand on n u slot u.cls bin hn hu status)
    · rw [other e]
      exact outside d bin hl
  · exact h.handNodup
  · exact h.placed
  · exact h.single
  · exact h.held
  · intro d hd
    by_cases e : c = d
    · subst e
      rw [own, settled] at hd
      cases hd
    · rw [other e] at hd
      exact h.heads d hd
  · intro d
    by_cases e : c = d
    · subst e
      rw [own, state]
      cases x.enabled <;> simp
    · rw [other e]
      exact h.off d

end IssueLaw

end Sys2Proof.Machine

/-! ## The requests of the record store and the class table keep the law of the hall -/

namespace Sys2Proof.Machine

theorem HallLaw.units {s : Hall} (h : HallLaw s) : UnitsLaw s := (hallLaw_iff.mp h).2.2

/-- A change that keeps the keys and the units' parts keeps the law. -/
theorem HallLaw.of_tables {s t : Hall} (h : HallLaw s) (keeps : KeepsTables s t) (units : UnitsLaw t) : HallLaw t :=
  hallLaw_iff.mpr ⟨keeps.tables h.tables, keeps.index h.tables h.index, units⟩

theorem HallLaw.of_keys {s t : Hall} (h : HallLaw s) (keeps : KeepsKeys s t) (units : UnitsLaw t) : HallLaw t :=
  h.of_tables (.of_keys keeps) units

/-! ### What a rewritten record shows the other units -/

section Views

variable {s t : Hall} {slot : Nat} {r' : Record}

theorem promisedAt_put (records : t.records = s.records.put slot r') (x : Nat) :
    t.promisedAt x = if slot = x then r'.promisedView else s.promisedAt x := by
  simp only [Hall.promisedAt, records, get_put]
  split <;> rfl

theorem mountedAt_put (records : t.records = s.records.put slot r') (x : Nat) :
    t.mountedAt x = if slot = x then r'.mountedView else s.mountedAt x := by
  simp only [Hall.mountedAt, records, get_put]
  split <;> rfl

theorem gaugingAt_put (records : t.records = s.records.put slot r') (x : Nat) :
    t.gaugingAt x = if slot = x then r'.status.isGauging else s.gaugingAt x := by
  simp only [Hall.gaugingAt, records, get_put]
  split <;> rfl

theorem promisedAt_of_get {r : Record} (hr : s.records.get slot = some r) : s.promisedAt slot = r.promisedView := by
  simp [Hall.promisedAt, hr]

theorem mountedAt_of_get {r : Record} (hr : s.records.get slot = some r) : s.mountedAt slot = r.mountedView := by
  simp [Hall.mountedAt, hr]

theorem gaugingAt_of_get {r : Record} (hr : s.records.get slot = some r) : s.gaugingAt slot = r.status.isGauging := by
  simp [Hall.gaugingAt, hr]

theorem promisedAt_same (records : t.records = s.records.put slot r') (view : r'.promisedView = s.promisedAt slot)
    (x : Nat) : t.promisedAt x = s.promisedAt x := by
  rw [promisedAt_put records]
  split
  · subst_vars; exact view
  · rfl

theorem mountedAt_same (records : t.records = s.records.put slot r') (view : r'.mountedView = s.mountedAt slot)
    (x : Nat) : t.mountedAt x = s.mountedAt x := by
  rw [mountedAt_put records]
  split
  · subst_vars; exact view
  · rfl

theorem gaugingAt_same (records : t.records = s.records.put slot r') (view : r'.status.isGauging = s.gaugingAt slot)
    (x : Nat) : t.gaugingAt x = s.gaugingAt x := by
  rw [gaugingAt_put records]
  split
  · subst_vars; exact view
  · rfl

end Views

/-- A record that neither a ticket, a binding nor a session refers to: NEW, READY, OUT or HELD. -/
def RecordStatus.unheld : RecordStatus → Bool
  | .new | .ready | .out | .held _ => true
  | .gauging _ | .promised | .mounted => false

theorem promisedView_unheld {r : Record} (h : r.status.unheld = true) : r.promisedView = none := by
  unfold Record.promisedView
  cases status : r.status <;> simp_all [RecordStatus.unheld]

theorem mountedView_unheld {r : Record} (h : r.status.unheld = true) : r.mountedView = none := by
  unfold Record.mountedView
  cases status : r.status <;> simp_all [RecordStatus.unheld]

theorem isGauging_unheld {x : RecordStatus} (h : x.unheld = true) : x.isGauging = false := by
  cases x with
  | new | ready | out | held _ => rfl
  | gauging _ | promised | mounted => cases h

/-! ### The rest of the hall -/

/-- The tables that no request of the record store touches, but for classes that it defines or rewrites. -/
structure StoreFrame (s t : Hall) : Prop where
  stations : t.stations = s.stations
  bindings : t.bindings = s.bindings
  clients : t.clients = s.clients
  tickets : t.tickets = s.tickets
  waitQueues : t.waitQueues = s.waitQueues
  channels : t.channels = s.channels
  handover : t.handover = s.handover
  classes : ∀ cls, s.classes.has cls = true → t.classes.has cls = true

namespace StoreFrame

variable {s t u : Hall}

theorem refl (s : Hall) : StoreFrame s s := ⟨rfl, rfl, rfl, rfl, rfl, rfl, rfl, fun _ => id⟩

theorem trans (h : StoreFrame s t) (k : StoreFrame t u) : StoreFrame s u :=
  ⟨k.1.trans h.1, k.2.trans h.2, k.3.trans h.3, k.4.trans h.4, k.5.trans h.5, k.6.trans h.6, k.7.trans h.7,
    fun cls e => k.8 cls (h.8 cls e)⟩

theorem putRecord (s : Hall) (slot : Nat) (r : Record) : StoreFrame s (s.putRecord slot r) :=
  ⟨rfl, rfl, rfl, rfl, rfl, rfl, rfl, fun _ => id⟩

theorem leaveChain (slot cls : Nat) (s : Hall) : StoreFrame s (leaveChain slot cls s) :=
  ⟨rfl, rfl, rfl, rfl, rfl, rfl, rfl, fun _ => id⟩

theorem joinChain (slot : Nat) (r : Record) (s : Hall) : StoreFrame s (joinChain slot r s) :=
  ⟨rfl, rfl, rfl, rfl, rfl, rfl, rfl, fun _ => id⟩

theorem putClass (s : Hall) (cls : Nat) (c : ClassEntry) : StoreFrame s (s.putClass cls c) :=
  ⟨rfl, rfl, rfl, rfl, rfl, rfl, rfl, fun x e => by simp only [putClass_classes, has_put, e, Bool.or_true]⟩

theorem usableFall (cls : Nat) (s : Hall) : StoreFrame s (usableFall cls s).1 := by
  unfold Machine.usableFall
  split
  · exact refl s
  · dsimp only
    split
    · exact (putClass s cls _).trans ⟨rfl, rfl, rfl, rfl, rfl, rfl, rfl, fun _ => id⟩
    · exact putClass s cls _

theorem usableRise (cls : Nat) (s : Hall) : StoreFrame s (usableRise cls s) := by
  unfold Machine.usableRise
  split
  · exact refl s
  · exact putClass s cls _

theorem holdReady (slot : Nat) (r : Record) (reason : HoldReason) (s : Hall) :
    StoreFrame s (holdReady slot r reason s).1 :=
  ((leaveChain slot r.cls s).trans (putRecord _ _ _)).trans (usableFall _ _)

theorem arrive (slot : Nat) (r : Record) (wasUsable : Bool) (s : Hall) : StoreFrame s (arrive slot r wasUsable s) := by
  have joined := (putRecord s slot { r with status := .ready }).trans (joinChain slot { r with status := .ready } _)
  unfold Machine.arrive
  dsimp only
  split
  · exact joined
  · exact joined.trans (usableRise _ _)

end StoreFrame

/-! ### One record -/

namespace UnitsLaw

variable {s t : Hall} {slot : Nat} {r r' : Record}

/-- The other units' parts hold where they see the same of every record. -/
theorem of_store (u : UnitsLaw s) (frame : StoreFrame s t) (store : StoreLaw t)
    (promised : ∀ x, t.promisedAt x = s.promisedAt x) (mounted : ∀ x, t.mountedAt x = s.mountedAt x)
    (gauging : ∀ x, t.gaugingAt x = s.gaugingAt x) : UnitsLaw t where
  store := store
  issue := u.issue.congr frame.tickets frame.waitQueues frame.channels frame.handover promised frame.classes
  mount := u.mount.congr frame.bindings frame.clients mounted
  gauge := u.gauge.congr frame.stations gauging

/-- A record that no other unit refers to is rewritten to such a record. -/
theorem rewrite_unheld (u : UnitsLaw s) (hr : s.records.get slot = some r)
    (records : t.records = s.records.put slot r') (before : r.status.unheld = true) (after : r'.status.unheld = true)
    (frame : StoreFrame s t) (store : StoreLaw t) : UnitsLaw t :=
  u.of_store frame store
    (promisedAt_same records (by rw [promisedAt_of_get hr, promisedView_unheld before, promisedView_unheld after]))
    (mountedAt_same records (by rw [mountedAt_of_get hr, mountedView_unheld before, mountedView_unheld after]))
    (gaugingAt_same records (by rw [gaugingAt_of_get hr, isGauging_unheld before, isGauging_unheld after]))

/-- A record is rewritten in nothing that the other units see. -/
theorem rewrite_alike (u : UnitsLaw s) (hr : s.records.get slot = some r)
    (records : t.records = s.records.put slot r') (promised : r'.promisedView = r.promisedView)
    (mounted : r'.mountedView = r.mountedView) (gauging : r'.status.isGauging = r.status.isGauging)
    (frame : StoreFrame s t) (store : StoreLaw t) : UnitsLaw t :=
  u.of_store frame store (promisedAt_same records (by rw [promisedAt_of_get hr, promised]))
    (mountedAt_same records (by rw [mountedAt_of_get hr, mounted]))
    (gaugingAt_same records (by rw [gaugingAt_of_get hr, gauging]))

end UnitsLaw

/-! ### Enrolling and retiring -/

theorem clampNat_pos {lo hi n : Nat} (hlo : 1 ≤ lo) (hhi : 1 ≤ hi) : 1 ≤ clampNat lo hi n := by
  unfold clampNat
  split
  · exact hlo
  · split <;> omega

theorem initialLife_pos {fullLife : Nat} (h : 1 ≤ fullLife) (life : Option Word) : 1 ≤ initialLife fullLife life := by
  cases life with
  | none => exact h
  | some w => exact clampNat_pos le_rfl h

theorem del_put {α : Type} (t : Table α) (n : Nat) (v : α) : (t.put n v).del n = t.del n := by
  induction t with
  | nil => simp [Table.put, Table.del]
  | cons e rest ih =>
    obtain ⟨k, w⟩ := e
    unfold Table.put
    split
    · simp [Table.del]
    · split
      · subst_vars
        simp [Table.del]
      · unfold Table.del at ih ⊢
        rw [List.filter_cons, List.filter_cons, ih]

theorem usableFall_putRecord (cls slot : Nat) (r : Record) (s : Hall) :
    (usableFall cls (s.putRecord slot r)).1 = (usableFall cls s).1.putRecord slot r := by
  unfold usableFall
  rw [putRecord_classes]
  cases s.classes.get cls with
  | none => rfl
  | some c =>
    dsimp only
    split <;> rfl

namespace StoreLaw

variable {s : Hall} {slot : Nat} {r : Record}

/-- A new record in a free slot, of a defined class, with life and not usable. -/
theorem enrol (h : StoreLaw s) (wf : s.records.wf) (free : s.records.get slot = none) (tool : Nat)
    (cls : s.classes.has r.cls = true) (status : r.status = .new) (alive : 0 < r.life) :
    StoreLaw { s with records := s.records.put slot r, index := s.index.put tool slot } where
  fullLife := h.fullLife
  defined x rx hx := by
    simp only [get_put] at hx
    split at hx
    · cases hx; exact cls
    · exact h.defined x rx hx
  life x rx hx := by
    simp only [get_put] at hx
    split at hx
    · cases hx
      intro zero
      omega
    · exact h.life x rx hx
  chains := by
    refine h.chains.congr fun x => ?_
    rw [readyAt_put (s := s) (slot := slot) (r' := r) rfl]
    split
    · subst_vars
      simp [Hall.readyAt, free, Record.readyKey, status]
    · rfl
  counts := by
    have same : Hall.usableIn { s with records := s.records.put slot r, index := s.index.put tool slot } =
        s.usableIn := funext fun x => by
      simp only [Hall.usableIn, count_put_new wf free, countsIn_eq, Record.usable, status]
      simp
    rw [same]
    exact h.counts

/-- A record that is neither READY nor usable is taken out. -/
theorem free (h : StoreLaw s) (wf : s.records.wf) (hr : s.records.get slot = some r) (tool : Nat)
    (ready : r.status ≠ .ready) (usable : r.usable = false) : StoreLaw (freeRecord slot tool s) where
  fullLife := h.fullLife
  defined x rx hx := by
    simp only [freeRecord_records, get_del] at hx
    split at hx
    · cases hx
    · exact h.defined x rx hx
  life x rx hx := by
    simp only [freeRecord_records, get_del] at hx
    split at hx
    · cases hx
    · exact h.life x rx hx
  chains := by
    refine h.chains.congr fun x => ?_
    simp only [Hall.readyAt, freeRecord_records, get_del]
    split
    · subst_vars
      simp [hr, Record.readyKey, ready]
    · rfl
  counts := by
    have same : (freeRecord slot tool s).usableIn = s.usableIn := funext fun x => by
      have := count_del (p := Record.countsIn x) wf hr
      rw [countsIn_eq, usable] at this
      simpa [Hall.usableIn] using this
    rw [same]
    exact h.counts

end StoreLaw

namespace HallLaw

variable {s : Hall} {slot : Nat} {r r' : Record}

theorem enrol (h : HallLaw s) {tool cls : Nat} (life : Option Word) (location : Location) {c : ClassEntry}
    (hc : s.classes.get cls = some c) (free : s.index.get tool = none)
    (hs : s.records.lowestFree Config.recordSlots = some slot) :
    HallLaw { s with
      records := s.records.put slot (newRecord tool cls (initialLife c.shape.fullLife life) location)
      index := s.index.put tool slot } := by
  have u := h.units
  have unused : s.records.get slot = none := (lowestFree_spec _ _ _ h.tables.records hs).2
  have alive : 0 < (newRecord tool cls (initialLife c.shape.fullLife life) location).life :=
    initialLife_pos (u.store.fullLife cls c hc) life
  refine h.of_tables (.enrol (r := newRecord tool cls (initialLife c.shape.fullLife life) location) hs free)
    (u.of_store ⟨rfl, rfl, rfl, rfl, rfl, rfl, rfl, fun _ => id⟩
      (u.store.enrol h.tables.records unused tool (by simp [newRecord, Table.has, hc]) rfl alive)
      (promisedAt_same rfl (by simp [Hall.promisedAt, unused, Record.promisedView, newRecord]))
      (mountedAt_same rfl (by simp [Hall.mountedAt, unused, Record.mountedView, newRecord]))
      (gaugingAt_same rfl (by simp [Hall.gaugingAt, unused, RecordStatus.isGauging, newRecord])))

theorem free (h : HallLaw s) (hr : s.records.get slot = some r)
    (status : r.status = .new ∨ ∃ reason, r.status = .held reason) : HallLaw (freeRecord slot r.tool s) := by
  have u := h.units
  have unheld : r.status.unheld = true := by rcases status with e | ⟨_, e⟩ <;> rw [e] <;> rfl
  refine h.of_tables (.freeRecord (by simp [Hall.toolAt, hr]))
    (u.of_store ⟨rfl, rfl, rfl, rfl, rfl, rfl, rfl, fun _ => id⟩
      (u.store.free h.tables.records hr r.tool (by rcases status with e | ⟨_, e⟩ <;> simp [e])
        (by rcases status with e | ⟨_, e⟩ <;> simp [Record.usable, e])) (fun x => ?_) (fun x => ?_) fun x => ?_)
  · simp only [Hall.promisedAt, freeRecord_records, get_del]
    split
    · subst_vars; simp [hr, promisedView_unheld unheld]
    · rfl
  · simp only [Hall.mountedAt, freeRecord_records, get_del]
    split
    · subst_vars; simp [hr, mountedView_unheld unheld]
    · rfl
  · simp only [Hall.gaugingAt, freeRecord_records, get_del]
    split
    · subst_vars; simp [hr, isGauging_unheld unheld]
    · rfl

theorem hold (h : HallLaw s) (reason : HoldReason) (hr : s.records.get slot = some r) (status : r.status = .ready)
    (tool : r'.tool = r.tool) (cls : r'.cls = r.cls) (life : r'.life = r.life) :
    HallLaw (holdReady slot r' reason s).1 :=
  h.of_keys ((KeepsKeys.refl s).holdReady reason (toolAt_of_get hr tool)) <|
    h.units.rewrite_unheld hr (r' := { r' with status := .held reason }) (usableFall_records _ _) (by rw [status]; rfl)
      rfl (.holdReady slot r' reason s) (h.units.store.hold h.tables.records hr status cls life reason)

/-- A READY record is retired as it would be after being held. -/
theorem freeReady (h : HallLaw s) (hr : s.records.get slot = some r) (status : r.status = .ready) :
    HallLaw (freeRecord slot r.tool (usableFall r.cls (leaveChain slot r.cls s)).1) := by
  have held := h.hold .manual hr status rfl rfl rfl
  have e : (holdReady slot r .manual s).1 =
      (usableFall r.cls (leaveChain slot r.cls s)).1.putRecord slot { r with status := .held .manual } :=
    usableFall_putRecord ..
  rw [e] at held
  have freed := held.free (slot := slot) (r := { r with status := .held .manual })
    (by rw [putRecord_records]; exact get_put_self ..) (.inr ⟨_, rfl⟩)
  simpa only [freeRecord, putRecord_records, del_put, putRecord_index, Hall.putRecord] using freed

theorem record (h : HallLaw s) (hr : s.records.get slot = some r) (alike : r.Alike r') :
    HallLaw (s.putRecord slot r') :=
  h.of_keys ((KeepsKeys.refl s).putRecord (toolAt_of_get hr alike.tool)) <|
    h.units.rewrite_alike hr rfl alike.promised alike.mounted alike.gauging (.putRecord s slot r')
      (h.units.store.quiet h.tables.records hr rfl rfl rfl alike.cls (alike.life (h.units.store.life slot r hr))
        alike.ready alike.usable)

theorem holdOut (h : HallLaw s) (reason : HoldReason) (hr : s.records.get slot = some r) (status : r.status = .out)
    (alive : 0 < r.life) (tool : r'.tool = r.tool) (cls : r'.cls = r.cls) (life : r'.life = r.life) :
    HallLaw (usableFall r'.cls (s.putRecord slot { r' with status := .held reason })).1 := by
  refine h.of_keys (((KeepsKeys.refl s).putRecord (r := { r' with status := .held reason })
    (toolAt_of_get hr tool)).usableFall _) <|
    h.units.rewrite_unheld hr (r' := { r' with status := .held reason }) (usableFall_records _ _) (by rw [status]; rfl)
      rfl ((StoreFrame.putRecord s slot _).trans (.usableFall _ _)) ?_
  have fallen := h.units.store.fall h.tables.records hr (r' := { r' with status := .held reason }) cls
    (fun zero => by simp only [life] at zero; omega) (by simp [Record.readyKey, status])
    (by simp [Record.usable, status, alive]) rfl
  rwa [← cls] at fallen

end HallLaw

end Sys2Proof.Machine

/-! ## Classes, pockets, clients and settings keep the law of the hall -/

namespace Sys2Proof.Machine

/-! ### Settings -/

namespace UnitsLaw

variable {s t : Hall}

/-- The units' parts do not look beyond the tables of records, chains, classes, stations, tickets, queues, channels,
bindings and clients. -/
theorem congr (u : UnitsLaw s) (records : t.records = s.records) (chains : t.chains = s.chains)
    (classes : t.classes = s.classes) (stations : t.stations = s.stations) (tickets : t.tickets = s.tickets)
    (waitQueues : t.waitQueues = s.waitQueues) (channels : t.channels = s.channels)
    (handover : t.handover = s.handover) (bindings : t.bindings = s.bindings) (clients : t.clients = s.clients) :
    UnitsLaw t :=
  u.of_store ⟨stations, bindings, clients, tickets, waitQueues, channels, handover, fun cls e => by rwa [classes]⟩
    (u.store.congr records chains classes) (fun x => by simp only [Hall.promisedAt, records])
    (fun x => by simp only [Hall.mountedAt, records]) fun x => by simp only [Hall.gaugingAt, records]

end UnitsLaw

theorem GaugeLaw.stationsAlike {s t : Hall} (h : GaugeLaw s) (alike : ∀ n, (s.station n).Alike (t.station n))
    (records : t.records = s.records) : GaugeLaw t := by
  have state n := (alike n).state
  have gauging : ∀ x, t.gaugingAt x = s.gaugingAt x := fun x => by simp only [Hall.gaugingAt, records]
  -- Every session of the new stations is one of the old with the same kind, and the other way about.
  have back {n : Fin 4} {x : Session} (hx : (t.station n).session = some x) :
      ∃ y, (s.station n).session = some y ∧ y.kind = x.kind := by
    have kind := (alike n).kind
    rw [hx, Option.map_some] at kind
    exact Option.map_eq_some_iff.mp kind.symm
  have forth {n : Fin 4} {x : Session} (hx : (s.station n).session = some x) :
      ∃ y, (t.station n).session = some y ∧ y.kind = x.kind := by
    have kind := (alike n).kind
    rw [hx, Option.map_some] at kind
    exact Option.map_eq_some_iff.mp kind
  constructor
  · intro n
    have kind := congrArg Option.isSome (alike n).kind
    rw [Option.isSome_map, Option.isSome_map] at kind
    rw [kind, state, h.session n]
  · intro n x slot hx hs
    obtain ⟨y, hy, kind⟩ := back hx
    rw [state, gauging]
    exact h.tool n y slot hy (kind ▸ hs)
  · intro m n x y slot hx hy hs hys
    obtain ⟨x', hx', kx⟩ := back hx
    obtain ⟨y', hy', ky⟩ := back hy
    exact h.single m n x' y' slot hx' hy' (kx ▸ hs) (ky ▸ hys)
  · intro slot hs
    obtain ⟨n, x, hx, kind⟩ := h.gauged slot (gauging slot ▸ hs)
    obtain ⟨y, hy, k⟩ := forth hx
    exact ⟨n, y, hy, k ▸ kind⟩
  · intro n hn
    rw [(alike n).active]
    exact h.active n (state n ▸ hn)
  · intro n hn
    obtain ⟨gauging, geometry, correction⟩ := h.pending n ((alike n).pending ▸ hn)
    exact ⟨by rw [state, gauging], (alike n).geometry geometry, (alike n).correction correction⟩

theorem putClient_client (s : Hall) (m n : Nat) (e : ClientEntry) :
    (s.putClient m e).client n = if m = n then e else s.client n := by
  cases e <;> simp only [Hall.putClient, Hall.client, get_put, get_del] <;> split <;> rfl

namespace HallLaw

variable {s : Hall}

theorem banks (h : HallLaw s) (stations : Vector Station 4) (channels : Vector Channel 16)
    (hs : ∀ n, (s.stations.get n).Alike (stations.get n)) (hc : ∀ c, (s.channels.get c).Alike (channels.get c)) :
    HallLaw { s with stations, channels } := by
  have u := h.units
  exact h.of_tables (Effect.banks s stations channels hs hc).keepsTables
    { store := u.store.congr rfl rfl rfl
      issue := u.issue.channelsAlike hc rfl rfl rfl rfl rfl
      mount := u.mount.congr rfl rfl fun _ => rfl
      gauge := u.gauge.stationsAlike hs rfl }

/-- A machine client with a binding keeps its role (R192). -/
theorem client (h : HallLaw s) (n : Nat) (e : ClientEntry)
    (work : (e.role = (s.client n).role ∧ e.station = (s.client n).station) ∨ clientHasWork n s = false) :
    HallLaw (s.putClient n e) := by
  have u := h.units
  have only : ∃ clients, s.putClient n e = { s with clients } := by
    cases e <;> exact ⟨_, rfl⟩
  refine h.of_keys ((KeepsKeys.refl s).putClient n e) ?_
  have client := putClient_client s n
  obtain ⟨clients, only⟩ := only
  specialize client (e := e)
  rw [only] at client ⊢
  refine
    { store := u.store.congr rfl rfl rfl
      issue := u.issue.congr rfl rfl rfl rfl (fun _ => rfl) fun _ => id
      mount := { u.mount with machine := fun entry b hb => ?_ }
      gauge := u.gauge.congr rfl fun _ => rfl }
  have role := u.mount.machine entry b hb
  rw [client]
  split
  · subst_vars
    rcases work with ⟨same, -⟩ | idle
    · rw [same, role]
    · have unbound : clientBindings b.client s = 0 := by
        simp only [clientHasWork, Bool.or_eq_false_iff, decide_eq_false_iff_not] at idle
        omega
      have := count_eq_zero.mp unbound (entry, b) (mem_of_get _ _ _ hb)
      simp at this
  · exact role

/-! ### Classes -/

theorem defineClass (h : HallLaw s) {cls : Nat} {c : ClassEntry} (free : s.classes.get cls = none)
    (life : 1 ≤ c.shape.fullLife) (usable : c.usable = 0) (low : c.low = decide (c.usable < c.policy.minStock)) :
    HallLaw (s.putClass cls c) := by
  have u := h.units
  have unused : s.usableIn cls = 0 := count_eq_zero.mpr fun e he => by
    obtain ⟨slot, r⟩ := e
    obtain ⟨d, hd⟩ := u.store.classOf (get_of_mem h.tables.records he)
    have ne : r.cls ≠ cls := by
      rintro rfl
      rw [free] at hd
      cases hd
    rw [countsIn_eq, beq_false_of_ne ne, Bool.false_and]
  exact h.of_keys ((KeepsKeys.refl s).putClass cls c) (u.of_store (.putClass s cls c)
    (u.store.putClass life (by rw [usable, unused]) low) (fun _ => rfl) (fun _ => rfl) fun _ => rfl)

theorem redefineClass (h : HallLaw s) {cls : Nat} {c c' : ClassEntry} (hc : s.classes.get cls = some c)
    (life : 1 ≤ c'.shape.fullLife) (usable : c'.usable = c.usable)
    (low : c'.low = decide (c'.usable < c'.policy.minStock)) : HallLaw (s.putClass cls c') := by
  have u := h.units
  exact h.of_keys ((KeepsKeys.refl s).putClass cls c') (u.of_store (.putClass s cls c')
    (u.store.putClass life (by rw [usable, (u.store.counts cls c hc).1]) low) (fun _ => rfl) (fun _ => rfl)
    fun _ => rfl)

theorem counters (h : HallLaw s) {cls : Nat} {c : ClassEntry} (issues rejects : Counter)
    (hc : s.classes.get cls = some c) : HallLaw (s.putClass cls { c with issues, rejects }) :=
  h.redefineClass hc (h.units.store.fullLife cls c hc) rfl (h.units.store.counts cls c hc).2

/-- A class that no record and no ticket has is deleted (R32). -/
theorem deleteClass (h : HallLaw s) {cls : Nat} (idle : inUse cls s = false) :
    HallLaw { s with classes := s.classes.del cls } := by
  have u := h.units
  obtain ⟨noRecord, noTicket⟩ : recordsOf cls s = 0 ∧ ticketsOf cls s = 0 := by
    simp only [inUse, Bool.or_eq_false_iff, decide_eq_false_iff_not] at idle
    omega
  have still {x : Nat} {c : ClassEntry} (hx : (s.classes.del cls).get x = some c) : s.classes.get x = some c := by
    rw [get_del] at hx
    split at hx
    · cases hx
    · exact hx
  have has {x : Nat} (ne : x ≠ cls) (hx : s.classes.has x = true) : (s.classes.del cls).has x = true := by
    simpa only [Table.has, get_del, if_neg ne.symm] using hx
  refine h.of_keys ((KeepsKeys.refl s).delClass cls)
    { store :=
        { fullLife := fun x c hx => u.store.fullLife x c (still hx)
          defined := fun slot r hr => has (fun e => ?_) (u.store.defined slot r hr)
          life := u.store.life
          chains := u.store.chains
          counts := fun x c hx => u.store.counts x c (still hx) }
      issue := { u.issue with defined := fun n t ht => has (fun e => ?_) (u.issue.defined n t ht) }
      mount := u.mount.congr rfl rfl fun _ => rfl
      gauge := u.gauge.congr rfl fun _ => rfl }
  · have := count_eq_zero.mp noRecord (slot, r) (mem_of_get _ _ _ hr)
    simp [e] at this
  · have := count_eq_zero.mp noTicket (n, t) (mem_of_get _ _ _ ht)
    simp [e] at this

/-! ### Pockets -/

end HallLaw

theorem findBinding_none {client pocket : Nat} {bindings : Table Binding}
    (h : findBinding client pocket bindings = none) {e : Nat} {b : Binding} (hb : (e, b) ∈ bindings) :
    ¬(b.client = client ∧ b.pocket = pocket) := by
  induction bindings with
  | nil => cases hb
  | cons f rest ih =>
    obtain ⟨k, x⟩ := f
    unfold findBinding at h
    split at h
    · cases h
    · rename_i other
      rcases List.mem_cons.mp hb with e | hb
      · cases e
        exact other
      · exact ih h hb

namespace MountLaw

variable {s t : Hall}

/-- A record that was in no pocket is bound to a free pocket of a machine. -/
theorem mount (h : MountLaw s) {client pocket slot entry : Nat} (out : s.mountedAt slot = none)
    (machine : (s.client client).role = .machine) (free : findBinding client pocket s.bindings = none)
    (unused : s.bindings.get entry = none)
    (bindings : ∀ e, t.bindings.get e = if entry = e then some ⟨client, pocket, slot, false⟩ else s.bindings.get e)
    (mounted : ∀ x, t.mountedAt x = if slot = x then some (.pocket client pocket) else s.mountedAt x)
    (clients : t.clients = s.clients) : MountLaw t := by
  have role : ∀ n, t.client n = s.client n := fun n => by simp only [Hall.client, clients]
  have other {e : Nat} {b : Binding} (hb : s.bindings.get e = some b) : slot ≠ b.slot := by
    rintro rfl
    have := h.bound e b hb
    rw [out] at this
    cases this
  have own : t.bindings.get entry = some ⟨client, pocket, slot, false⟩ := by rw [bindings, if_pos rfl]
  have back {e : Nat} {b : Binding} (hb : t.bindings.get e = some b) :
      (e = entry ∧ b = ⟨client, pocket, slot, false⟩) ∨ s.bindings.get e = some b := by
    rw [bindings] at hb
    split at hb
    · cases hb
      exact .inl ⟨by subst_vars; rfl, rfl⟩
    · exact .inr hb
  constructor
  · intro e b hb
    rw [role]
    rcases back hb with ⟨-, rfl⟩ | hb
    · exact machine
    · exact h.machine e b hb
  · intro e b hb
    rw [mounted]
    rcases back hb with ⟨-, rfl⟩ | hb
    · exact if_pos rfl
    · rw [if_neg (other hb)]
      exact h.bound e b hb
  · intro e f b d hb hd same same'
    rcases back hb with ⟨rfl, rfl⟩ | hb <;> rcases back hd with ⟨rfl, rfl⟩ | hd
    · rfl
    · exact absurd ⟨same.symm, same'.symm⟩ (findBinding_none free (mem_of_get _ _ _ hd))
    · exact absurd ⟨same, same'⟩ (findBinding_none free (mem_of_get _ _ _ hb))
    · exact h.single e f b d hb hd same same'
  · intro x location view
    rw [mounted] at view
    split at view
    · subst_vars
      exact ⟨entry, _, own, rfl⟩
    · obtain ⟨e, b, hb, hs⟩ := h.mounted x location view
      refine ⟨e, b, ?_, hs⟩
      rw [bindings, if_neg fun e' => ?_]
      · exact hb
      · subst e'
        rw [unused] at hb
        cases hb

/-- A binding is taken out and its record is MOUNTED no more. -/
theorem dismount (h : MountLaw s) {entry : Nat} {b : Binding} (hb : s.bindings.get entry = some b)
    (bindings : ∀ e, t.bindings.get e = if entry = e then none else s.bindings.get e)
    (mounted : ∀ x, t.mountedAt x = if b.slot = x then none else s.mountedAt x)
    (clients : t.clients = s.clients) : MountLaw t := by
  have role : ∀ n, t.client n = s.client n := fun n => by simp only [Hall.client, clients]
  have back {e : Nat} {d : Binding} (hd : t.bindings.get e = some d) : entry ≠ e ∧ s.bindings.get e = some d := by
    rw [bindings] at hd
    split at hd
    · cases hd
    · exact ⟨‹_›, hd⟩
  -- Two bindings of one slot would be one pocket's.
  have other {e : Nat} {d : Binding} (ne : entry ≠ e) (hd : s.bindings.get e = some d) : b.slot ≠ d.slot := fun same => by
    have there := h.bound entry b hb
    rw [same, h.bound e d hd] at there
    obtain ⟨client, pocket⟩ : d.client = b.client ∧ d.pocket = b.pocket := by simpa using there
    exact ne (h.single entry e b d hb hd client.symm pocket.symm)
  constructor
  · intro e d hd
    rw [role]
    exact h.machine e d (back hd).2
  · intro e d hd
    obtain ⟨ne, hd⟩ := back hd
    rw [mounted, if_neg (other ne hd)]
    exact h.bound e d hd
  · exact fun e f d d' hd hd' => h.single e f d d' (back hd).2 (back hd').2
  · intro x location view
    rw [mounted] at view
    split at view
    · cases view
    · rename_i different
      obtain ⟨e, d, hd, rfl⟩ := h.mounted x location view
      refine ⟨e, d, ?_, rfl⟩
      rw [bindings, if_neg fun e' => ?_]
      · exact hd
      · subst e'
        rw [hb] at hd
        cases hd
        exact different rfl

/-- A binding is rewritten but for its pocket and its slot. -/
theorem remark (h : MountLaw s) {entry : Nat} {b b' : Binding} (hb : s.bindings.get entry = some b)
    (client : b'.client = b.client) (pocket : b'.pocket = b.pocket) (slot : b'.slot = b.slot) :
    MountLaw { s with bindings := s.bindings.put entry b' } := by
  have back {e : Nat} {d : Binding} (hd : (s.bindings.put entry b').get e = some d) :
      ∃ d', s.bindings.get e = some d' ∧ d.client = d'.client ∧ d.pocket = d'.pocket ∧ d.slot = d'.slot := by
    rw [get_put] at hd
    split at hd
    · cases hd
      subst_vars
      exact ⟨b, hb, client, pocket, slot⟩
    · exact ⟨d, hd, rfl, rfl, rfl⟩
  constructor
  · intro e d hd
    obtain ⟨d', hd', ec, -, -⟩ := back hd
    rw [ec]
    exact h.machine e d' hd'
  · intro e d hd
    obtain ⟨d', hd', ec, ep, es⟩ := back hd
    rw [ec, ep, es]
    exact h.bound e d' hd'
  · intro e f d g hd hg same same'
    obtain ⟨d', hd', ec, ep, -⟩ := back hd
    obtain ⟨g', hg', ec', ep', -⟩ := back hg
    exact h.single e f d' g' hd' hg' (by rw [← ec, ← ec', same]) (by rw [← ep, ← ep', same'])
  · intro x location view
    obtain ⟨e, d, hd, hs⟩ := h.mounted x location view
    by_cases he : entry = e
    · subst he
      obtain rfl := Option.some.inj (hb.symm.trans hd)
      exact ⟨entry, b', get_put_self .., slot.trans hs⟩
    · exact ⟨e, d, by rw [get_put_ne _ _ _ _ he, hd], hs⟩

/-- The record of a binding is MOUNTED. -/
theorem record (h : MountLaw s) {entry : Nat} {b : Binding} {r : Record} (hb : s.bindings.get entry = some b)
    (hr : s.records.get b.slot = some r) : r.status = .mounted := by
  obtain ⟨r', hr', status, -⟩ := mountedAt_eq_some.mp (h.bound entry b hb)
  obtain rfl := Option.some.inj (hr.symm.trans hr')
  exact status

end MountLaw

namespace HallLaw

variable {s : Hall}

theorem mount (h : HallLaw s) {client pocket slot entry : Nat} {r r' : Record} (hr : s.records.get slot = some r)
    (out : r.status = .out) (tool : r'.tool = r.tool) (cls : r'.cls = r.cls) (life : r'.life = r.life)
    (status : r'.status = .mounted) (location : r'.location = .pocket client pocket)
    (machine : (s.client client).role = .machine) (free : findBinding client pocket s.bindings = none)
    (he : s.bindings.lowestFree Config.bindingEntries = some entry) :
    HallLaw { s.putRecord slot r' with bindings := s.bindings.put entry ⟨client, pocket, slot, false⟩ } := by
  have u := h.units
  have unheld : r.status.unheld = true := by rw [out]; rfl
  refine h.of_tables
    (Effect.mount s client pocket slot entry r r' hr out tool cls life status location machine free he).keepsTables
    { store := ?_
      issue := u.issue.congr rfl rfl rfl rfl (promisedAt_same rfl ?_) fun _ => id
      mount := u.mount.mount (by rw [mountedAt_of_get hr, mountedView_unheld unheld]) machine free
        (lowestFree_spec _ _ _ h.tables.bindings he).2 (fun e => get_put ..)
        (fun x => (mountedAt_put rfl x).trans (by simp only [Record.mountedView, status, location, if_pos])) rfl
      gauge := u.gauge.congr rfl (gaugingAt_same rfl ?_) }
  · exact u.store.quiet h.tables.records hr rfl rfl rfl cls (fun _ => .inr (.inl status))
      (by simp [Record.readyKey, status, out]) (by simp [Record.usable, status, out, life])
  · rw [promisedAt_of_get hr, promisedView_unheld unheld]
    simp [Record.promisedView, status]
  · rw [gaugingAt_of_get hr, isGauging_unheld unheld, status]
    rfl

theorem dismount (h : HallLaw s) {entry : Nat} {b : Binding} {r : Record} (hb : (entry, b) ∈ s.bindings)
    (hr : s.records.get b.slot = some r) :
    HallLaw { s.putRecord b.slot { r with status := .out, location := .none } with
      bindings := s.bindings.del entry } := by
  have u := h.units
  have listed := get_of_mem h.tables.bindings hb
  have mounted := u.mount.record listed hr
  refine h.of_tables (Effect.dismount s entry b r hb hr).keepsTables
    { store := ?_
      issue := u.issue.congr rfl rfl rfl rfl (promisedAt_same rfl ?_) fun _ => id
      mount := u.mount.dismount listed (fun e => get_del ..)
        (fun x => (mountedAt_put rfl x).trans (by simp [Record.mountedView])) rfl
      gauge := u.gauge.congr rfl (gaugingAt_same rfl ?_) }
  · exact u.store.quiet h.tables.records hr (r' := { r with status := .out, location := .none }) rfl rfl rfl rfl
      (fun _ => .inl rfl) (by simp [Record.readyKey, mounted]) (by simp [Record.usable, mounted])
  · simp [promisedAt_of_get hr, Record.promisedView, mounted]
  · simp [gaugingAt_of_get hr, RecordStatus.isGauging, mounted]

theorem protect (h : HallLaw s) {entry : Nat} {b : Binding} (mark : Bool) (hb : (entry, b) ∈ s.bindings) :
    HallLaw { s with bindings := s.bindings.put entry { b with isProtected := mark } } := by
  have u := h.units
  exact h.of_tables (Effect.protect s entry b mark hb).keepsTables
    { store := u.store.congr rfl rfl rfl
      issue := u.issue.congr rfl rfl rfl rfl (fun _ => rfl) fun _ => id
      mount := u.mount.remark (get_of_mem h.tables.bindings hb) rfl rfl rfl
      gauge := u.gauge.congr rfl fun _ => rfl }

theorem charge (h : HallLaw s) {entry : Nat} {b : Binding} {r r' : Record} (hb : (entry, b) ∈ s.bindings)
    (hr : s.records.get b.slot = some r) (tool : r'.tool = r.tool) (cls : r'.cls = r.cls)
    (status : r'.status = r.status) (location : r'.location = r.location) (before : 0 < r.life) (after : 0 < r'.life) :
    HallLaw (s.putRecord b.slot r') := by
  have mounted := h.units.mount.record (get_of_mem h.tables.bindings hb) hr
  refine h.record hr ⟨tool, cls, ?_, ?_, ?_, by rw [status], ?_, fun _ _ => .inr (.inl (status.trans mounted))⟩
  · simp [Record.readyKey, status, mounted]
  · simp [Record.promisedView, status, mounted]
  · simp [Record.mountedView, status, location]
  · simp [Record.usable, status, mounted, before, after]

theorem wearOut (h : HallLaw s) {entry : Nat} {b : Binding} {r r' : Record} (hb : (entry, b) ∈ s.bindings)
    (hr : s.records.get b.slot = some r) (tool : r'.tool = r.tool) (cls : r'.cls = r.cls)
    (status : r'.status = r.status) (location : r'.location = r.location) (before : 0 < r.life) (after : r'.life = 0) :
    HallLaw (usableFall r.cls (s.putRecord b.slot r')).1 := by
  have u := h.units
  have mounted := u.mount.record (get_of_mem h.tables.bindings hb) hr
  refine h.of_tables (Effect.wearOut s entry b r r' hb hr tool cls status location before after).keepsTables
    (u.rewrite_alike hr (r' := r') (usableFall_records _ _) ?_ ?_ (by rw [status])
      ((StoreFrame.putRecord s b.slot r').trans (.usableFall _ _)) ?_)
  · simp [Record.promisedView, status, mounted]
  · simp [Record.mountedView, status, location]
  · exact u.store.fall h.tables.records hr cls (fun _ => .inr (.inl (status.trans mounted)))
      (by simp [Record.readyKey, status, mounted]) (by simp [Record.usable, mounted, before])
      (by simp [Record.usable, status, mounted, after])

end HallLaw

end Sys2Proof.Machine

/-! ## Cycles, promises and offers

`StockLaw` is the law of the hall without pockets and stations, which no promise touches. -/

namespace Sys2Proof.Machine

/-- The law of the tables, the index, the record store and the tickets. -/
structure StockLaw (s : Hall) : Prop where
  tables : TablesLaw s
  index : IndexLaw s
  store : StoreLaw s
  issue : IssueLaw s

theorem HallLaw.stock {s : Hall} (h : HallLaw s) : StockLaw s := ⟨h.tables, h.index, h.units.store, h.units.issue⟩

theorem StockLaw.of_keys {s t : Hall} (h : StockLaw s) (keeps : KeepsKeys s t) (store : StoreLaw t)
    (issue : IssueLaw t) : StockLaw t :=
  ⟨(KeepsTables.of_keys keeps).tables h.tables, (KeepsTables.of_keys keeps).index h.tables h.index, store, issue⟩

/-- Where the tables of a lawful hall with its pockets and stations are left alone, the stock's law is the hall's. -/
theorem HallLaw.of_stock {s t : Hall} (h : HallLaw s) (stock : StockLaw t) (frame : DeskFrame s t)
    (mounted : ∀ x, t.mountedAt x = s.mountedAt x) (gauging : ∀ x, t.gaugingAt x = s.gaugingAt x) : HallLaw t :=
  hallLaw_iff.mpr ⟨stock.tables, stock.index,
    { store := stock.store
      issue := stock.issue
      mount := h.units.mount.congr frame.bindings frame.clients mounted
      gauge := h.units.gauge.congr frame.stations gauging }⟩

/-! ### A cycle starts -/

/-- What a cycle's start changes: channels and tickets, and no more. -/
theorem startCycle_only (c : Fin 16) (s : Hall) :
    ∃ channels tickets, startCycle c s = { s with channels := channels, tickets := tickets } := by
  unfold startCycle
  split
  · dsimp only
    split
    · exact ⟨_, _, rfl⟩
    · exact ⟨_, _, rfl⟩
  · exact ⟨s.channels, s.tickets, rfl⟩

theorem startCycle_busy {c : Fin 16} {s : Hall} (h : (s.channel c).state ≠ .idle) : startCycle c s = s := by
  unfold startCycle
  split
  · exact absurd ‹_› h
  · rfl

theorem IssueLaw.startCycle {s : Hall} (h : IssueLaw s) (c : Fin 16) : IssueLaw (startCycle c s) := by
  unfold Machine.startCycle
  split
  · rename_i n rest idle online queue
    have head : (s.channel c).queue.head? = some n := by rw [queue]; rfl
    obtain ⟨-, t, slot, bin, ht, status, -⟩ := h.queued c n (List.mem_of_mem_head? head)
    rw [statusOf_settled (by rw [idle]; rfl)] at status
    dsimp only
    rw [setChannel_tickets, ht]
    dsimp only
    have released : t.release = { t with status := ChannelState.released.headStatus slot } := by
      unfold Ticket.release
      rw [status]
      rfl
    have other {d : Fin 16} (ne : c ≠ d) (x : Channel) := setChannel_channel_ne s c d x ne
    refine h.headMoves (c := c) (n := n) (x := t) (state := .released) head ht (by rw [status]; rfl) rfl rfl
      (fun m => ?_) (fun _ => rfl) rfl rfl (fun d => ?_) (fun d => ?_) fun d => ?_
    · rw [released]
      exact get_put ..
    all_goals
      by_cases e : c = d
      · subst e
        simp [Hall.channel, Hall.putTicket, Hall.setChannel, Vector.get_eq_getElem]
      · simp -failIfUnchanged only [if_neg e]
        exact congrArg _ (other e _)
  · exact h

theorem StockLaw.startCycle {s : Hall} (h : StockLaw s) (c : Fin 16) : StockLaw (startCycle c s) := by
  refine h.of_keys ((KeepsKeys.refl s).startCycle c) ?_ (h.issue.startCycle c)
  obtain ⟨channels, tickets, e⟩ := startCycle_only c s
  rw [e]
  exact h.store.congr rfl rfl rfl

/-! ### A promise -/

/-- A promise before the drawer unit takes the ticket (R94). -/
def bindTicket (n : Nat) (t : Ticket) (slot : Nat) (r : Record) (s : Hall) : Hall :=
  let s := (leaveChain slot r.cls s).putRecord slot { r with status := .promised }
  let s := match t.status with
    | .waiting => leaveWaitQueue n t.cls s
    | _ => s
  s.putTicket n { t with status := .promised slot }

theorem promise_eq (n : Nat) (t : Ticket) (slot : Nat) (r : Record) (s : Hall) :
    promise n t slot r s = placeWithDrawer n t r.location (bindTicket n t slot r s) := rfl

/-- What a bound ticket changes but for the wait queues. -/
theorem bindTicket_only (n : Nat) (t : Ticket) (slot : Nat) (r : Record) (s : Hall) :
    ∃ waitQueues, bindTicket n t slot r s = { s with
      chains := s.chains.putList r.cls ((s.chains.list r.cls).filter fun x => x != slot)
      records := s.records.put slot { r with status := .promised }
      tickets := s.tickets.put n { t with status := .promised slot }
      waitQueues } := by
  unfold bindTicket
  dsimp only
  split <;> exact ⟨_, rfl⟩

/-- A promised ticket goes to an enabled drawer's queue, where a cycle may start, or to the handover list. -/
theorem placeWithDrawer_cases (n : Nat) (t : Ticket) (location : Location) (s : Hall) :
    (∃ c bin, location = .drawer c bin ∧ (s.channel c).enabled = true ∧
      (placeWithDrawer n t location s).1 = startCycle c (s.setChannel c { s.channel c with
        queue := channelQueueInsert s.tickets n (bandRank t.band) (s.channel c).queue })) ∨
    ((∀ c bin, location = .drawer c bin → (s.channel c).enabled = false) ∧
      (placeWithDrawer n t location s).1 = { s with handover := s.handover ++ [n] }) := by
  unfold placeWithDrawer
  split
  · rename_i c bin
    split
    · rename_i on
      exact .inl ⟨c, bin, rfl, on, rfl⟩
    · rename_i off
      exact .inr ⟨fun d b e => by cases e; simpa using off, rfl⟩
  · rename_i shelf
    exact .inr ⟨fun d b e => absurd e (shelf d b), rfl⟩

/-- The records, chains and classes that a promised ticket's place leaves alone. -/
theorem placeWithDrawer_store (n : Nat) (t : Ticket) (location : Location) (s : Hall) :
    (placeWithDrawer n t location s).1.records = s.records ∧ (placeWithDrawer n t location s).1.chains = s.chains ∧
      (placeWithDrawer n t location s).1.classes = s.classes ∧ (placeWithDrawer n t location s).1.mode = s.mode := by
  rcases placeWithDrawer_cases n t location s with ⟨c, bin, -, -, e⟩ | ⟨-, e⟩ <;> rw [e]
  · obtain ⟨channels, tickets, e⟩ := startCycle_only c (s.setChannel c { s.channel c with
      queue := channelQueueInsert s.tickets n (bandRank t.band) (s.channel c).queue })
    rw [e]
    exact ⟨rfl, rfl, rfl, rfl⟩
  · exact ⟨rfl, rfl, rfl, rfl⟩

theorem promise_records (n : Nat) (t : Ticket) (slot : Nat) (r : Record) (s : Hall) :
    (promise n t slot r s).1.records = s.records.put slot { r with status := .promised } := by
  rw [promise_eq, (placeWithDrawer_store ..).1]
  obtain ⟨waitQueues, e⟩ := bindTicket_only n t slot r s
  rw [e]

theorem StoreLaw.promise {s : Hall} {slot : Nat} {r : Record} (h : StoreLaw s) (wf : s.records.wf)
    (hr : s.records.get slot = some r) (ready : r.status = .ready) (n : Nat) (t : Ticket) :
    StoreLaw (promise n t slot r s).1 := by
  obtain ⟨records, chains, classes, -⟩ := placeWithDrawer_store n t r.location (bindTicket n t slot r s)
  obtain ⟨waitQueues, e⟩ := bindTicket_only n t slot r s
  refine h.promised wf hr ready (promise_records ..) ?_ ?_ <;> rw [promise_eq]
  · rw [chains, e]
  · rw [classes, e]

/-- The issue law after a promise, from the hall `s0` in which the ticket does not yet stand. -/
theorem IssueLaw.promise {s s0 : Hall} {n slot : Nat} {t : Ticket} {r : Record} (h : IssueLaw s0)
    (free : s0.tickets.get n = none) (hr : s.records.get slot = some r) (ready : r.status = .ready)
    (cls : t.cls = r.cls) (has : s0.classes.has t.cls = true)
    (tickets : ∀ m, n ≠ m → s0.tickets.get m = s.tickets.get m)
    (waits : ∀ c, (bindTicket n t slot r s).waitQueues.list c = s0.waitQueues.list c)
    (channels : s0.channels = s.channels) (handover : s0.handover = s.handover) (records : s0.records = s.records)
    (classes : s0.classes = s.classes) : IssueLaw (Machine.promise n t slot r s).1 := by
  have channel (c : Fin 16) : s0.channel c = s.channel c := by simp only [Hall.channel, channels]
  have unheld : s0.promisedAt slot = none := by
    simp [Hall.promisedAt, records, hr, Record.promisedView, ready]
  obtain ⟨waitQueues, only⟩ := bindTicket_only n t slot r s
  have bound (m : Nat) : (bindTicket n t slot r s).tickets.get m =
      if n = m then some { t with status := .promised slot } else s0.tickets.get m := by
    rw [only]
    refine (get_put ..).trans ?_
    split
    · rfl
    · rw [tickets m ‹_›]
  have view (y : Nat) : (bindTicket n t slot r s).promisedAt y =
      if slot = y then some (t.cls, r.location) else s0.promisedAt y := by
    rw [promisedAt_put (s := s) (slot := slot) (r' := { r with status := .promised }) (by rw [only])]
    simp [Record.promisedView, cls, Hall.promisedAt, records]
  have channels' (c : Fin 16) : (bindTicket n t slot r s).channel c = s0.channel c := by
    rw [only, channel]
    rfl
  have handover' : (bindTicket n t slot r s).handover = s0.handover := by rw [only, handover]
  have classes' : (bindTicket n t slot r s).classes = s0.classes := by rw [only, classes]
  rw [promise_eq]
  generalize bindTicket n t slot r s = b at *
  rcases placeWithDrawer_cases n t r.location b with ⟨c, bin, drawer, on, e⟩ | ⟨outside, e⟩ <;> rw [e]
  · refine IssueLaw.startCycle ?_ c
    refine h.addPromised (place := some c) (location := r.location) free unheld
      (x := { t with status := .promised slot }) rfl has classes' bound view waits ?_ (by simp) ?_ ?_ ?_ (by simpa)
    · rintro d ⟨⟩
      exact ⟨bin, drawer, by rw [← channels', on]⟩
    all_goals
      intro d
      by_cases e : c = d
      · subst e
        simp [channels']
      · rw [setChannel_channel_ne _ _ _ _ e]
        simp [channels', e]
  · refine h.addPromised (place := none) (location := r.location) free unheld
      (x := { t with status := .promised slot }) rfl has classes' bound view waits (by simp)
      (fun _ d bin l => by rw [← channels', outside d bin l]) (fun d => ?_) (fun d => ?_) (fun d => ?_) (by simp [handover'])
    all_goals
      rw [← channels']
      rfl

/-- A new ticket is promised a READY record of its class. -/
theorem StockLaw.promiseNew {s : Hall} {n slot : Nat} {t : Ticket} {r : Record} (h : StockLaw s)
    (free : s.tickets.lowestFree Config.tickets = some n) (hr : s.records.get slot = some r)
    (ready : r.status = .ready) (cls : t.cls = r.cls) : StockLaw (promiseNew n t slot r s).hall := by
  refine h.of_keys ((KeepsKeys.refl s).promise _ (.inl (lowestFree_lt free)) (toolAt_of_get hr rfl))
    (h.store.promise h.tables.records hr ready n _) ?_
  exact h.issue.promise (t := { t with status := .promised slot }) (lowestFree_spec _ _ _ h.tables.tickets free).2 hr
    ready cls (by rw [show t.cls = r.cls from cls]; exact h.store.defined slot r hr) (fun _ _ => rfl) (fun _ => rfl) rfl
    rfl rfl rfl

/-- A WAITING ticket is promised a READY record of its class. -/
theorem StockLaw.promiseWaiting {s : Hall} {n slot : Nat} {t : Ticket} {r : Record} (h : StockLaw s)
    (ht : s.tickets.get n = some t) (waiting : t.status = .waiting) (hr : s.records.get slot = some r)
    (ready : r.status = .ready) (cls : t.cls = r.cls) : StockLaw (promise n t slot r s).1 := by
  refine h.of_keys ((KeepsKeys.refl s).promise _ (.inr (by rw [ht]; rfl)) (toolAt_of_get hr rfl))
    (h.store.promise h.tables.records hr ready n t) ?_
  refine (h.issue.dropWaiting ht waiting).promise (by rw [freeTicket_tickets]; exact get_del_self ..) hr ready cls
    (h.issue.defined n t ht) (fun m ne => ?_) (fun c => ?_) rfl rfl rfl rfl
  · rw [freeTicket_tickets, get_del, if_neg ne]
    rfl
  · unfold bindTicket
    dsimp only
    rw [waiting]
    rfl

/-! ### An offer -/

/-- An offer leaves the hall as it is or promises the record to the first waiting ticket of its class that it meets. -/
theorem offer_cases (slot : Nat) (s : Hall) : (offer slot s).hall = s ∨
    ∃ r n t, s.records.get slot = some r ∧ n ∈ s.waitQueues.list r.cls ∧ s.tickets.get n = some t ∧
      (offer slot s).hall = (promise n t slot r s).1 := by
  unfold offer
  split
  · rename_i r online hr
    split
    · rename_i n t met
      obtain ⟨mem, ht⟩ := firstMet_mem met
      exact .inr ⟨r, n, t, hr, mem, ht, rfl⟩
    · exact .inl rfl
  · exact .inl rfl

theorem StockLaw.offer {s : Hall} (h : StockLaw s) {slot : Nat} {r : Record} (hr : s.records.get slot = some r)
    (ready : r.status = .ready) : StockLaw (offer slot s).hall := by
  rcases offer_cases slot s with e | ⟨r', n, t, hr', mem, ht, e⟩ <;> rw [e]
  · exact h
  · obtain rfl := Option.some.inj (hr.symm.trans hr')
    obtain ⟨t', ht', waiting, cls⟩ := (h.issue.waiting r.cls n).mp mem
    obtain rfl := Option.some.inj (ht.symm.trans ht')
    exact h.promiseWaiting ht waiting hr ready cls

/-- An offer leaves every record but the one offered, which stays READY or is PROMISED. -/
theorem offer_records (slot : Nat) (s : Hall) : (offer slot s).hall.records = s.records ∨
    ∃ r, s.records.get slot = some r ∧
      (offer slot s).hall.records = s.records.put slot { r with status := .promised } := by
  rcases offer_cases slot s with e | ⟨r, n, t, hr, -, -, e⟩
  · exact .inl (by rw [e])
  · exact .inr ⟨r, hr, by rw [e, promise_records]⟩

theorem offer_mountedAt {s : Hall} {slot : Nat} {r : Record} (hr : s.records.get slot = some r)
    (ready : r.status = .ready) (x : Nat) : (offer slot s).hall.mountedAt x = s.mountedAt x := by
  rcases offer_records slot s with e | ⟨r', hr', e⟩
  · simp only [Hall.mountedAt, e]
  · obtain rfl := Option.some.inj (hr.symm.trans hr')
    exact mountedAt_same e (by simp [mountedAt_of_get hr, Record.mountedView, ready]) x

theorem offer_gaugingAt {s : Hall} {slot : Nat} {r : Record} (hr : s.records.get slot = some r)
    (ready : r.status = .ready) (x : Nat) : (offer slot s).hall.gaugingAt x = s.gaugingAt x := by
  rcases offer_records slot s with e | ⟨r', hr', e⟩
  · simp only [Hall.gaugingAt, e]
  · obtain rfl := Option.some.inj (hr.symm.trans hr')
    exact gaugingAt_same e (by simp [gaugingAt_of_get hr, RecordStatus.isGauging, ready]) x

/-! ### A record enters READY -/

theorem arrive_get (slot : Nat) (r : Record) (wasUsable : Bool) (s : Hall) :
    (arrive slot r wasUsable s).records.get slot = some { r with status := .ready } := by
  rw [arrive_records]
  exact get_put_self ..

theorem arrive_keys (slot : Nat) (r : Record) (wasUsable : Bool) {s : Hall} (hr : s.toolAt slot = some r.tool) :
    KeepsKeys s (arrive slot r wasUsable s) := by
  have joined := ((KeepsKeys.refl s).putRecord (r := { r with status := .ready }) hr).joinChain slot
    { r with status := .ready }
  unfold arrive
  dsimp only
  split
  · exact joined
  · exact joined.usableRise _

/-- The issue unit's law holds where a record that is READY now was not PROMISED. -/
theorem IssueLaw.arrive {s : Hall} (h : IssueLaw s) {slot : Nat} {r : Record} (wasUsable : Bool)
    (unheld : s.promisedAt slot = none) : IssueLaw (arrive slot r wasUsable s) := by
  have frame := StoreFrame.arrive slot r wasUsable s
  exact h.congr frame.tickets frame.waitQueues frame.channels frame.handover
    (promisedAt_same (arrive_records ..) (by rw [unheld]; rfl)) frame.classes

/-- A record with life, in a state that no ticket holds and no chain lists, enters READY and is offered. -/
theorem StockLaw.enterReady {s : Hall} (h : StockLaw s) {slot : Nat} {r r' : Record} {wasUsable : Bool}
    (hr : s.records.get slot = some r) (status : r.status ≠ .ready) (unheld : r.status ≠ .promised) (alive : 0 < r.life)
    (usable : wasUsable = r.usable) (tool : r'.tool = r.tool) (cls : r'.cls = r.cls) (life : r'.life = r.life) :
    StockLaw (enterReady slot r' wasUsable s).hall := by
  rw [enterReady_eq]
  refine StockLaw.offer ⟨?_, ?_, ?_, ?_⟩ (arrive_get ..) rfl
  · exact (KeepsTables.of_keys (arrive_keys slot r' wasUsable (toolAt_of_get hr tool))).tables h.tables
  · exact (KeepsTables.of_keys (arrive_keys slot r' wasUsable (toolAt_of_get hr tool))).index h.tables h.index
  · rw [usable]
    exact h.store.arrive h.tables.records h.index hr status alive tool cls life
  · exact h.issue.arrive wasUsable (by simp [promisedAt_of_get hr, Record.promisedView, unheld])

theorem enterReady_mountedAt (slot : Nat) (r : Record) (wasUsable : Bool) (s : Hall) (x : Nat) :
    (enterReady slot r wasUsable s).hall.mountedAt x = if slot = x then none else s.mountedAt x := by
  rw [enterReady_eq, offer_mountedAt (arrive_get ..) rfl, mountedAt_put (arrive_records ..)]
  rfl

theorem enterReady_gaugingAt (slot : Nat) (r : Record) (wasUsable : Bool) (s : Hall) (x : Nat) :
    (enterReady slot r wasUsable s).hall.gaugingAt x = if slot = x then false else s.gaugingAt x := by
  rw [enterReady_eq, offer_gaugingAt (arrive_get ..) rfl, gaugingAt_put (arrive_records ..)]
  rfl

namespace HallLaw

variable {s : Hall} {slot : Nat} {r r' : Record}

theorem startCycle (h : HallLaw s) (c : Fin 16) : HallLaw (startCycle c s) := by
  refine h.of_stock (h.stock.startCycle c) (DeskFrame.startCycle c s) (fun x => ?_) fun x => ?_ <;>
    obtain ⟨channels, tickets, e⟩ := startCycle_only c s <;> rw [e] <;> rfl

theorem offer (h : HallLaw s) (hr : s.records.get slot = some r) (ready : r.status = .ready) :
    HallLaw (offer slot s).hall :=
  h.of_stock (h.stock.offer hr ready) (DeskFrame.offer slot s) (offer_mountedAt hr ready) (offer_gaugingAt hr ready)

theorem ready (h : HallLaw s) (hr : s.records.get slot = some r)
    (status : r.status = .out ∨ ∃ reason, r.status = .held reason) (alive : 0 < r.life) (tool : r'.tool = r.tool)
    (cls : r'.cls = r.cls) (life : r'.life = r.life) :
    HallLaw (enterReady slot r' (decide (r.status = .out)) s).hall := by
  have unheld : r.status.unheld = true := by rcases status with e | ⟨_, e⟩ <;> rw [e] <;> rfl
  refine h.of_stock (h.stock.enterReady hr ?_ ?_ alive ?_ tool cls life) (DeskFrame.enterReady ..) (fun x => ?_)
    fun x => ?_
  · rcases status with e | ⟨_, e⟩ <;> simp [e]
  · rcases status with e | ⟨_, e⟩ <;> simp [e]
  · rcases status with e | ⟨_, e⟩ <;> simp [e, Record.usable, alive]
  · rw [enterReady_mountedAt]
    split
    · subst_vars
      rw [mountedAt_of_get hr, mountedView_unheld unheld]
    · rfl
  · rw [enterReady_gaugingAt]
    split
    · subst_vars
      rw [gaugingAt_of_get hr, isGauging_unheld unheld]
    · rfl

theorem promiseNew (h : HallLaw s) {n : Nat} {t : Ticket} (free : s.tickets.lowestFree Config.tickets = some n)
    (hr : s.records.get slot = some r) (ready : (r.status = .ready ∧ r.cls = t.cls) ∨ slot ∈ s.chains.list t.cls) :
    HallLaw (promiseNew n t slot r s).hall := by
  obtain ⟨status, cls⟩ : r.status = .ready ∧ r.cls = t.cls := by
    rcases ready with both | listed
    · exact both
    · obtain ⟨life, tool, key⟩ := (h.units.store.chains.member t.cls slot).mp listed
      obtain ⟨r', hr', status, cls, -⟩ := readyAt_eq_some.mp key
      obtain rfl := Option.some.inj (hr.symm.trans hr')
      exact ⟨status, cls⟩
  refine h.of_stock (h.stock.promiseNew free hr status cls.symm) (DeskFrame.promise ..)
    (mountedAt_same (promise_records ..) ?_) (gaugingAt_same (promise_records ..) ?_)
  · simp [mountedAt_of_get hr, Record.mountedView, status]
  · simp [gaugingAt_of_get hr, RecordStatus.isGauging, status]

/-- A new ticket waits at the tail of its band. -/
theorem wait (h : HallLaw s) {n : Nat} {t : Ticket} (free : s.tickets.lowestFree Config.tickets = some n)
    (status : t.status = .waiting)
    (cls : s.classes.has t.cls = true ∨ ∃ slot r, s.records.get slot = some r ∧ r.cls = t.cls) :
    HallLaw (letWait n t s).hall := by
  have u := h.units
  have defined : s.classes.has t.cls = true := by
    rcases cls with has | ⟨slot, r, hr, e⟩
    · exact has
    · exact e ▸ u.store.defined slot r hr
  refine h.of_tables (Effect.wait s n t free status cls).keepsTables
    { store := u.store.congr rfl rfl rfl
      issue := u.issue.addWaiting (lowestFree_spec _ _ _ h.tables.tickets free).2 status defined
        (fun m => get_put ..) (fun c => ?_) rfl rfl rfl rfl
      mount := u.mount.congr rfl rfl fun _ => rfl
      gauge := u.gauge.congr rfl fun _ => rfl }
  refine (list_putList ..).trans ?_
  split
  · subst_vars; rfl
  · rfl

theorem dropWaiting (h : HallLaw s) {n : Nat} {t : Ticket} (ht : s.tickets.get n = some t)
    (status : t.status = .waiting) : HallLaw ((leaveWaitQueue n t.cls s).freeTicket n) := by
  have u := h.units
  exact h.of_tables (Effect.dropWaiting s n t ht status).keepsTables
    { store := u.store.congr rfl rfl rfl
      issue := u.issue.dropWaiting ht status
      mount := u.mount.congr rfl rfl fun _ => rfl
      gauge := u.gauge.congr rfl fun _ => rfl }

end HallLaw

end Sys2Proof.Machine

/-! ## Gauging sessions keep the law of the hall -/

namespace Sys2Proof.Machine

/-! ### Stations -/

/-- With both halves staged an activation makes them the active set and ends UNCAL, DRIFT and the pending mark (R52). -/
theorem activate_staged {st : Station} (geometry : st.stagedGeometry.isSome = true)
    (correction : st.stagedCorrection.isSome = true) :
    st.activate.session = st.session ∧ st.activate.active.isSome = true ∧ st.activate.pending = false ∧
      st.activate.state.isGauging = st.state.isGauging ∧ (st.state.isGauging = true → st.activate.state = st.state) := by
  obtain ⟨g, hg⟩ := Option.isSome_iff_exists.mp geometry
  obtain ⟨c, hc⟩ := Option.isSome_iff_exists.mp correction
  unfold Station.activate
  simp only [hg, hc]
  cases st.state <;> simp [StationState.isGauging]

/-- A calibration write keeps the session and whether the station is GAUGING; it marks a set pending only while
GAUGING (R51). -/
theorem afterWrite_station (st : Station) :
    st.afterWrite.session = st.session ∧ st.afterWrite.state.isGauging = st.state.isGauging ∧
      (st.state.isGauging = true → st.afterWrite.state = st.state) ∧
      (st.afterWrite.active.isSome = true ∨ (st.afterWrite.active = st.active ∧ st.afterWrite.state = st.state)) ∧
      (st.afterWrite.pending = true → st.pending = true ∧ st.afterWrite = st ∨
        st.afterWrite.state.isGauging = true ∧ st.afterWrite.stagedGeometry.isSome = true ∧
          st.afterWrite.stagedCorrection.isSome = true) := by
  unfold Station.afterWrite
  split
  · rename_i staged
    obtain ⟨geometry, correction⟩ := Bool.and_eq_true_iff.mp staged
    obtain ⟨session, active, pending, gauging, state⟩ := activate_staged geometry correction
    split
    · rename_i entry e
      exact ⟨rfl, rfl, fun _ => rfl, .inr ⟨rfl, rfl⟩, fun _ => .inr ⟨by simp [e, StationState.isGauging], geometry,
        correction⟩⟩
    all_goals exact ⟨session, gauging, state, .inl active, fun on => by rw [pending] at on; cases on⟩
  · exact ⟨rfl, rfl, fun _ => rfl, .inr ⟨rfl, rfl⟩, fun on => .inl ⟨on, rfl⟩⟩

/-- A station whose session ends is not GAUGING, has its active set and no pending mark. -/
theorem close_station {st : Station} {state : StationState} (hs : state = .ready ∨ state = .drift)
    (active : st.active.isSome = true)
    (pending : st.pending = true → st.stagedGeometry.isSome = true ∧ st.stagedCorrection.isSome = true) :
    (st.close state).session = none ∧ (st.close state).state.isGauging = false ∧
      (st.close state).active.isSome = true ∧ (st.close state).pending = false := by
  have idle : state.isGauging = false := by rcases hs with rfl | rfl <;> rfl
  unfold Station.close
  dsimp only
  split
  · rename_i on
    obtain ⟨geometry, correction⟩ := pending on
    obtain ⟨session, set_, mark, gauging, -⟩ :=
      activate_staged (st := { st with state := state, session := none }) geometry correction
    exact ⟨session, gauging.trans idle, set_, mark⟩
  · rename_i off
    exact ⟨rfl, idle, active, by simpa using off⟩

namespace GaugeLaw

variable {s t : Hall} {n : Fin 4}

/-- One station is rewritten: what its session, and those of the other stations, must satisfy. -/
theorem setStation (h : GaugeLaw s) {x : Station} (stations : t.stations = (s.setStation n x).stations)
    (session : x.session.isSome = x.state.isGauging)
    (tool : ∀ y slot, x.session = some y → y.kind.slot = some slot → x.state = .gauging .ready ∧ t.gaugingAt slot = true)
    (others : ∀ m y slot, n ≠ m → (s.station m).session = some y → y.kind.slot = some slot →
      t.gaugingAt slot = true ∧ ∀ z, x.session = some z → z.kind.slot ≠ some slot)
    (gauged : ∀ slot, t.gaugingAt slot = true → (∃ y, x.session = some y ∧ y.kind.slot = some slot) ∨
      ∃ m y, n ≠ m ∧ (s.station m).session = some y ∧ y.kind.slot = some slot)
    (active : x.state ≠ .uncal → x.active.isSome = true)
    (pending : x.pending = true → x.state.isGauging = true ∧ x.stagedGeometry.isSome = true ∧
      x.stagedCorrection.isSome = true) : GaugeLaw t := by
  have own : t.station n = x := by
    simp only [Hall.station, stations]
    exact setStation_station s n x
  have other {m : Fin 4} (ne : n ≠ m) : t.station m = s.station m := by
    simp only [Hall.station, stations]
    exact setStation_station_ne s n m x ne
  constructor
  · intro m
    by_cases e : n = m
    · subst e; rw [own]; exact session
    · rw [other e]; exact h.session m
  · intro m y slot hy hs
    by_cases e : n = m
    · subst e
      rw [own] at hy ⊢
      exact tool y slot hy hs
    · rw [other e] at hy ⊢
      exact ⟨(h.tool m y slot hy hs).1, (others m y slot e hy hs).1⟩
  · intro m k y z slot hy hz hs hzs
    by_cases em : n = m <;> by_cases ek : n = k
    · rw [← em, ← ek]
    · subst em
      rw [own] at hy
      rw [other ek] at hz
      exact absurd hs ((others k z slot ek hz hzs).2 y hy)
    · subst ek
      rw [own] at hz
      rw [other em] at hy
      exact absurd hzs ((others m y slot em hy hs).2 z hz)
    · rw [other em] at hy
      rw [other ek] at hz
      exact h.single m k y z slot hy hz hs hzs
  · intro slot hs
    rcases gauged slot hs with ⟨y, hy, e⟩ | ⟨m, y, ne, hy, e⟩
    · exact ⟨n, y, by rw [own, hy], e⟩
    · exact ⟨m, y, by rw [other ne, hy], e⟩
  · intro m
    by_cases e : n = m
    · subst e; rw [own]; exact active
    · rw [other e]; exact h.active m
  · intro m
    by_cases e : n = m
    · subst e; rw [own]; exact pending
    · rw [other e]; exact h.pending m

/-- A station that is not GAUGING has no session. -/
theorem no_session (h : GaugeLaw s) (idle : (s.station n).state.isGauging = false) : (s.station n).session = none := by
  have := h.session n
  rw [idle] at this
  simpa using this

/-- The rule that follows a calibration write (R51). -/
theorem calibrate (h : GaugeLaw s) (n : Fin 4) : GaugeLaw (s.setStation n (s.station n).afterWrite) := by
  obtain ⟨session, gauging, state, active, pending⟩ := afterWrite_station (s.station n)
  have same (x : Nat) : (s.setStation n (s.station n).afterWrite).gaugingAt x = s.gaugingAt x := rfl
  refine h.setStation rfl (by rw [session, gauging, h.session n]) (fun y slot hy hs => ?_)
    (fun m y slot ne hy hs => ⟨(h.tool m y slot hy hs).2, fun z hz hzs => ne ?_⟩) (fun slot hs => ?_) (fun hs => ?_)
    fun on => ?_
  · obtain ⟨ready, there⟩ := h.tool n y slot (session ▸ hy) hs
    exact ⟨by rw [state (by rw [ready]; rfl), ready], there⟩
  · exact h.single n m z y slot (session ▸ hz) hy hzs hs
  · obtain ⟨m, y, hy, e⟩ := h.gauged slot hs
    by_cases eq : n = m
    · subst eq
      exact .inl ⟨y, by rw [session, hy], e⟩
    · exact .inr ⟨m, y, eq, hy, e⟩
  · rcases active with set_ | ⟨same, unchanged⟩
    · exact set_
    · rw [same]
      exact h.active n (unchanged ▸ hs)
  · rcases pending on with ⟨was, unchanged⟩ | marked
    · rw [unchanged]
      exact h.pending n was
    · exact marked

/-- A session opens on a station that is READY, or in DRIFT for the master (R63, R64). -/
theorem openSession (h : GaugeLaw s) {entry : EntryState} {kind : SessionKind}
    (state : (s.station n).state = entry.state)
    (stations : t.stations = (s.setStation n ((s.station n).openSession entry kind)).stations)
    (ready : kind.slot.isSome = true → entry = .ready) (loose : ∀ slot, kind.slot = some slot → s.gaugingAt slot = false)
    (gauging : ∀ x, t.gaugingAt x = (decide (kind.slot = some x) || s.gaugingAt x)) : GaugeLaw t := by
  have none_ := h.no_session (n := n) (by rw [state]; cases entry <;> rfl)
  refine h.setStation stations rfl ?_ (fun m y slot ne hy hs => ?_) (fun slot hs => ?_) (fun _ => ?_) fun on => ?_
  · rintro y slot ⟨⟩ hs
    exact ⟨by rw [← ready (by rw [show kind.slot = some slot from hs]; rfl)]; rfl,
      by rw [gauging, show kind.slot = some slot from hs]; simp⟩
  · have there := (h.tool m y slot hy hs).2
    refine ⟨by rw [gauging, there, Bool.or_true], ?_⟩
    rintro z ⟨⟩ hz
    rw [loose slot hz] at there
    cases there
  · rw [gauging, Bool.or_eq_true, decide_eq_true_eq] at hs
    rcases hs with own | old
    · exact .inl ⟨_, rfl, own⟩
    · obtain ⟨m, y, hy, e⟩ := h.gauged slot old
      refine .inr ⟨m, y, ?_, hy, e⟩
      rintro rfl
      rw [none_] at hy
      cases hy
  · exact h.active n (by rw [state]; cases entry <;> simp [EntryState.state])
  · have := (h.pending n on).1
    rw [state] at this
    cases entry <;> cases this

/-- A session ends, and its record is GAUGING no more (R67, R75). -/
theorem close (h : GaugeLaw s) {x : Session} {state : StationState} (hx : (s.station n).session = some x)
    (hs : (s.station n).state.isGauging = true → state = .ready ∨ state = .drift)
    (stations : t.stations = (s.setStation n ((s.station n).close state)).stations)
    (gauging : ∀ y, t.gaugingAt y = if x.kind.slot = some y then false else s.gaugingAt y) : GaugeLaw t := by
  have on : (s.station n).state.isGauging = true := by rw [← h.session n, hx]; rfl
  obtain ⟨session, idle, active, pending⟩ := close_station (hs on)
    (h.active n fun e => by rw [e] at on; cases on) fun mark => (h.pending n mark).2
  refine h.setStation stations (by rw [session, idle]; rfl) (fun y slot hy => ?_) (fun m y slot ne hy hys => ⟨?_, ?_⟩)
    (fun slot there => ?_) (fun _ => active) fun mark => ?_
  · rw [session] at hy
    cases hy
  · rw [gauging, if_neg fun own => ne (h.single n m x y slot hx hy own hys)]
    exact (h.tool m y slot hy hys).2
  · intro z hz
    rw [session] at hz
    cases hz
  · rw [gauging] at there
    split at there
    · cases there
    · rename_i different
      obtain ⟨m, y, hy, e⟩ := h.gauged slot there
      refine .inr ⟨m, y, ?_, hy, e⟩
      rintro rfl
      rw [hx] at hy
      cases hy
      exact different e
  · rw [pending] at mark
    cases mark

end GaugeLaw

/-! ### The requests -/

@[simp] theorem putRecord_putRecord (s : Hall) (slot : Nat) (r r' : Record) :
    (s.putRecord slot r).putRecord slot r' = s.putRecord slot r' := by
  unfold Hall.putRecord
  simp only [put_put]

namespace HallLaw

variable {s : Hall} {n : Fin 4} {slot : Nat} {r r' : Record}

theorem calibrate (h : HallLaw s) (n : Fin 4) : HallLaw (s.setStation n (s.station n).afterWrite) := by
  have u := h.units
  exact h.of_tables (Effect.calibrate s n).keepsTables
    { store := u.store.congr rfl rfl rfl
      issue := u.issue.congr rfl rfl rfl rfl (fun _ => rfl) fun _ => id
      mount := u.mount.congr rfl rfl fun _ => rfl
      gauge := u.gauge.calibrate n }

theorem beginMaster (h : HallLaw s) {entry : EntryState} (state : (s.station n).state = entry.state) :
    HallLaw (s.setStation n ((s.station n).openSession entry .master)) := by
  have u := h.units
  exact h.of_tables (Effect.beginMaster s n entry state).keepsTables
    { store := u.store.congr rfl rfl rfl
      issue := u.issue.congr rfl rfl rfl rfl (fun _ => rfl) fun _ => id
      mount := u.mount.congr rfl rfl fun _ => rfl
      gauge := u.gauge.openSession state rfl (fun e => by cases e) (fun slot e => by cases e)
        fun x => by simp [SessionKind.slot]; rfl }

theorem beginLoose (h : HallLaw s) {resume : Resume} (state : (s.station n).state = .ready)
    (hr : s.records.get slot = some r) (loose : r.status = .new ∨ ∃ reason, r.status = .held reason)
    (worn : r.status ≠ .held .worn) :
    HallLaw ((s.putRecord slot { r with status := .gauging resume }).setStation n
      ((s.station n).openSession .ready (.tool slot))) := by
  have u := h.units
  have unheld : r.status.unheld = true := by rcases loose with e | ⟨_, e⟩ <;> rw [e] <;> rfl
  have alive := u.store.alive hr (by rcases loose with e | ⟨_, e⟩ <;> simp_all)
  refine h.of_tables (Effect.beginLoose s n slot r resume state hr loose worn).keepsTables
    { store := u.store.quiet h.tables.records hr (r' := { r with status := .gauging resume }) rfl rfl rfl rfl
        (fun zero => by simp only at zero; omega) ?_ ?_
      issue := u.issue.congr rfl rfl rfl rfl (promisedAt_same (slot := slot)
        (r' := { r with status := .gauging resume }) rfl ?_) fun _ => id
      mount := u.mount.congr rfl rfl (mountedAt_same (slot := slot) (r' := { r with status := .gauging resume }) rfl ?_)
      gauge := u.gauge.openSession (entry := .ready) (kind := .tool slot) state rfl (fun _ => rfl) ?_ fun x => ?_ }
  · rcases loose with e | ⟨_, e⟩ <;> simp [Record.readyKey, e]
  · rcases loose with e | ⟨_, e⟩ <;> simp [Record.usable, e]
  · rw [promisedAt_of_get hr, promisedView_unheld unheld]
    simp [Record.promisedView]
  · rw [mountedAt_of_get hr, mountedView_unheld unheld]
    simp [Record.mountedView]
  · rintro x ⟨⟩
    rw [gaugingAt_of_get hr, isGauging_unheld unheld]
  · refine (gaugingAt_put (s := s) (slot := slot) (r' := { r with status := .gauging resume }) rfl x).trans ?_
    by_cases e : slot = x <;> simp [e, SessionKind.slot, RecordStatus.isGauging]

/-- A READY tool goes to the station as it would after being held. -/
theorem beginReady (h : HallLaw s) (state : (s.station n).state = .ready) (hr : s.records.get slot = some r)
    (ready : r.status = .ready) :
    HallLaw (((usableFall r.cls (leaveChain slot r.cls s)).1.putRecord slot { r with status := .gauging .ready }).setStation
      n ((s.station n).openSession .ready (.tool slot))) := by
  have held := h.hold .manual hr ready rfl rfl rfl
  have station : (holdReady slot r .manual s).1.station n = s.station n := by
    simp only [Hall.station, (StoreFrame.holdReady slot r .manual s).stations]
  have e : (holdReady slot r .manual s).1 =
      (usableFall r.cls (leaveChain slot r.cls s)).1.putRecord slot { r with status := .held .manual } :=
    usableFall_putRecord ..
  have begun := held.beginLoose (n := n) (slot := slot) (r := { r with status := .held .manual }) (resume := .ready)
    (by rw [station, state]) (by rw [e, putRecord_records]; exact get_put_self ..) (.inr ⟨_, rfl⟩) (by simp)
  rw [station, e, putRecord_putRecord] at begun
  exact begun

theorem closeMaster (h : HallLaw s) {x : Session} {state : StationState} (hx : (s.station n).session = some x)
    (kind : ∀ slot, x.kind = .tool slot → ∀ r, s.records.get slot = some r → r.status.isGauging = false)
    (hs : (s.station n).state.isGauging = true → state = .ready ∨ state = .drift) :
    HallLaw (s.setStation n ((s.station n).close state)) := by
  have u := h.units
  have master : x.kind.slot = none := by
    cases e : x.kind with
    | master => rfl
    | tool slot =>
      obtain ⟨r, hr, gauging⟩ := gaugingAt_eq_true.mp (u.gauge.tool n x slot hx (by rw [e]; rfl)).2
      rw [kind slot e r hr] at gauging
      cases gauging
  exact h.of_tables (Effect.closeMaster s n x state hx kind hs).keepsTables
    { store := u.store.congr rfl rfl rfl
      issue := u.issue.congr rfl rfl rfl rfl (fun _ => rfl) fun _ => id
      mount := u.mount.congr rfl rfl fun _ => rfl
      gauge := u.gauge.close hx hs rfl fun y => by rw [master, if_neg (by simp)]; rfl }

/-- The record of a tool session is GAUGING and has life. -/
theorem session_record (h : HallLaw s) {x : Session} (hx : (s.station n).session = some x) (kind : x.kind = .tool slot)
    (hr : s.records.get slot = some r) : r.status.isGauging = true ∧ 0 < r.life := by
  obtain ⟨r', hr', gauging⟩ := gaugingAt_eq_true.mp (h.units.gauge.tool n x slot hx (by rw [kind]; rfl)).2
  obtain rfl := Option.some.inj (hr.symm.trans hr')
  refine ⟨gauging, h.units.store.alive hr ?_⟩
  cases status : r.status <;> simp_all [RecordStatus.isGauging]

theorem closeLoose (h : HallLaw s) {x : Session} {state : StationState} (hx : (s.station n).session = some x)
    (kind : x.kind = .tool slot) (hr : s.records.get slot = some r) (tool : r'.tool = r.tool) (cls : r'.cls = r.cls)
    (life : r'.life = r.life) (status : r'.status = .new ∨ ∃ reason, r'.status = .held reason)
    (hs : (s.station n).state.isGauging = true → state = .ready ∨ state = .drift) :
    HallLaw ((s.putRecord slot r').setStation n ((s.station n).close state)) := by
  have u := h.units
  obtain ⟨gauging, alive⟩ := h.session_record hx kind hr
  have unheld : r'.status.unheld = true := by rcases status with e | ⟨_, e⟩ <;> rw [e] <;> rfl
  have off : r.readyKey = none ∧ r.usable = false ∧ r.promisedView = none ∧ r.mountedView = none := by
    cases e : r.status <;> simp_all [RecordStatus.isGauging, Record.readyKey, Record.usable, Record.promisedView,
      Record.mountedView]
  obtain ⟨notReady, notUsable, notPromised, notMounted⟩ := off
  refine h.of_tables (Effect.closeLoose s n x slot r r' state hx kind hr tool cls life status hs).keepsTables
    { store := u.store.quiet h.tables.records hr (r' := r') rfl rfl rfl cls (fun zero => by omega) ?_ ?_
      issue := u.issue.congr rfl rfl rfl rfl (promisedAt_same (slot := slot) (r' := r') rfl ?_) fun _ => id
      mount := u.mount.congr rfl rfl (mountedAt_same (slot := slot) (r' := r') rfl ?_)
      gauge := u.gauge.close hx hs rfl fun y => ?_ }
  · rw [notReady]
    rcases status with e | ⟨_, e⟩ <;> simp [Record.readyKey, e]
  · rw [notUsable]
    rcases status with e | ⟨_, e⟩ <;> simp [Record.usable, e]
  · rw [promisedAt_of_get hr, notPromised, promisedView_unheld unheld]
  · rw [mountedAt_of_get hr, notMounted, mountedView_unheld unheld]
  · refine (gaugingAt_put (s := s) (slot := slot) (r' := r') rfl y).trans ?_
    rw [kind, isGauging_unheld unheld]
    simp [SessionKind.slot]

theorem closeReady (h : HallLaw s) {x : Session} {state : StationState} (hx : (s.station n).session = some x)
    (kind : x.kind = .tool slot) (hr : s.records.get slot = some r) (tool : r'.tool = r.tool) (cls : r'.cls = r.cls)
    (life : r'.life = r.life) (hs : (s.station n).state.isGauging = true → state = .ready ∨ state = .drift) :
    HallLaw ((enterReady slot r' false s).hall.setStation n ((s.station n).close state)) := by
  have u := h.units
  obtain ⟨gauging, alive⟩ := h.session_record hx kind hr
  have frame := DeskFrame.enterReady slot r' false s
  have stock := h.stock.enterReady (wasUsable := false) hr (fun e => by rw [e] at gauging; cases gauging)
    (fun e => by rw [e] at gauging; cases gauging) alive (by cases e : r.status <;> simp_all [RecordStatus.isGauging,
      Record.usable]) tool cls life
  refine h.of_tables (Effect.closeReady s n x slot r r' state hx kind hr tool cls life hs).keepsTables
    { store := stock.store.congr rfl rfl rfl
      issue := stock.issue.congr rfl rfl rfl rfl (fun _ => rfl) fun _ => id
      mount := u.mount.congr frame.bindings frame.clients fun y => ?_
      gauge := u.gauge.close hx hs ?_ fun y => ?_ }
  · refine (enterReady_mountedAt slot r' false s y).trans ?_
    split
    · subst_vars
      rw [mountedAt_of_get hr, Record.mountedView, if_neg fun e => by rw [e] at gauging; cases gauging]
    · rfl
  · simp only [Hall.setStation, frame.stations]
  · refine (enterReady_gaugingAt slot r' false s y).trans ?_
    rw [kind]
    simp [SessionKind.slot]

end HallLaw

end Sys2Proof.Machine

/-! ## Tickets that end: withdrawal, lapse and completion -/

namespace Sys2Proof.Machine

/-! ### A ticket leaves its collection -/

/-- A ticket is taken out of the collection it stands in and freed; a channel whose cycle it headed is left FORCED, with
no cycle, for as long as its record moves. -/
structure Removed (n : Nat) (s b : Hall) : Prop where
  keys : KeepsKeys s b
  desk : DeskFrame s b
  records : b.records = s.records
  chains : b.chains = s.chains
  classes : b.classes = s.classes
  waitQueues : b.waitQueues = s.waitQueues
  tickets : b.tickets = s.tickets.del n
  handover : b.handover = s.handover.filter fun m => m != n
  queues : ∀ c, (b.channel c).queue = (s.channel c).queue.filter fun m => m != n
  enabled : ∀ c, (b.channel c).enabled = (s.channel c).enabled
  state : ∀ c, (b.channel c).state =
    if (s.channel c).state.settled = false ∧ (s.channel c).queue.head? = some n then .forced else (s.channel c).state

theorem filter_ne_of_not_mem {n : Nat} {l : List Nat} (h : n ∉ l) : l.filter (fun m => m != n) = l :=
  List.filter_eq_self.mpr fun m hm => by simpa using fun e : m = n => h (e ▸ hm)

namespace HallLaw

variable {s b : Hall} {n slot : Nat} {t : Ticket} {r r' : Record}

/-- The record that a ticket holds is PROMISED and has life. -/
theorem held_record (h : HallLaw s) (ht : s.tickets.get n = some t) (hs : t.status.slot = some slot) :
    ∃ r, s.records.get slot = some r ∧ r.status = .promised ∧ 0 < r.life := by
  obtain ⟨location, view⟩ := h.units.issue.holds ht hs
  obtain ⟨r, hr, status, -, -⟩ := promisedAt_eq_some.mp view
  exact ⟨r, hr, status, h.units.store.alive hr (by simp [status])⟩

/-- A ticket that holds a record ends, and the record is OUT. -/
theorem remove (h : HallLaw s) (ht : s.tickets.get n = some t) (hs : t.status.slot = some slot)
    (hr : s.records.get slot = some r) (gone : Removed n s b) (out : r'.status = .out) (tool : r'.tool = r.tool)
    (cls : r'.cls = r.cls) (life : r'.life = r.life) : HallLaw (b.putRecord slot r') := by
  have u := h.units
  obtain ⟨x, hx, promised, alive⟩ := h.held_record ht hs
  obtain rfl := Option.some.inj (hr.symm.trans hx)
  have records : (b.putRecord slot r').records = s.records.put slot r' := by rw [putRecord_records, gone.records]
  have stock : StockLaw (b.putRecord slot r') := by
    refine h.stock.of_keys (gone.keys.putRecord (toolAt_of_get hr tool)) ?_ ?_
    · exact u.store.quiet h.tables.records hr records gone.chains gone.classes cls (fun _ => .inl out)
        (by simp [Record.readyKey, out, promised]) (by simp [Record.usable, out, promised, life])
    · refine u.issue.remove ht hs (fun c => by rw [putRecord_classes, gone.classes]; exact id) (fun m => ?_) (fun y => ?_)
        gone.waitQueues gone.handover gone.queues gone.enabled gone.state
      · rw [putRecord_tickets, gone.tickets, get_del]
      · rw [promisedAt_put records]
        simp [Record.promisedView, out]
  refine h.of_stock stock ⟨gone.desk.1, gone.desk.2, gone.desk.3, gone.desk.4, gone.desk.5⟩
    (mountedAt_same records ?_) (gaugingAt_same records ?_)
  · simp [mountedAt_of_get hr, Record.mountedView, out, promised]
  · simp [gaugingAt_of_get hr, RecordStatus.isGauging, out, promised]

/-- A ticket that holds a record ends, and the record returns to READY with its offer (R99, R101). -/
theorem returnPromise (h : HallLaw s) (ht : s.tickets.get n = some t) (hs : t.status.slot = some slot)
    (gone : Removed n s b) : HallLaw (returnPromise slot b).hall := by
  obtain ⟨r, hr, -, alive⟩ := h.held_record ht hs
  have out := h.remove ht hs hr gone (r' := { r with status := .out }) rfl rfl rfl rfl
  have there : (b.putRecord slot { r with status := .out }).records.get slot = some { r with status := .out } := by
    rw [putRecord_records]
    exact get_put_self ..
  have back := out.ready (r' := { r with opened := false }) there (.inl rfl) alive rfl rfl rfl
  unfold Machine.returnPromise
  rw [gone.records, hr]
  simpa only [enterReady, putRecord_putRecord, decide_true] using back

end HallLaw

theorem countIssue_freeTicket (cls n : Nat) (s : Hall) :
    (countIssue cls s).freeTicket n = countIssue cls (s.freeTicket n) := by
  unfold countIssue
  rw [freeTicket_classes]
  cases s.classes.get cls <;> rfl

theorem HallLaw.countIssue {s : Hall} (h : HallLaw s) (cls : Nat) : HallLaw (countIssue cls s) := by
  unfold Machine.countIssue
  split
  · exact h
  · rename_i c hc
    exact h.counters c.issues.bump c.rejects hc

/-- The completion of a ticket that holds a record: the record is OUT, the class counts, the ticket is free (R100). -/
theorem complete_eq {n slot : Nat} {t : Ticket} {r : Record} {s : Hall} (hs : t.status.slot = some slot)
    (hr : s.records.get slot = some r) : (complete n t s).1 = countIssue r.cls ((s.freeTicket n).putRecord slot
      { r with status := .out, location := .none, dest := t.dest, outAge := 0, opened := false }) := by
  unfold complete
  simp only [hs, hr]
  exact countIssue_freeTicket ..

/-! ### Which tickets leave which collection -/

namespace IssueLaw

variable {s : Hall} {n slot : Nat} {t : Ticket}

theorem queue_filter (h : IssueLaw s) {c d : Fin 16} (hc : n ∈ (s.channel c).queue) (ne : c ≠ d) :
    (s.channel d).queue.filter (fun m => m != n) = (s.channel d).queue :=
  filter_ne_of_not_mem fun hd => ne ((h.apart hc).2 d hd).symm

theorem not_head (h : IssueLaw s) {c d : Fin 16} (hc : n ∈ (s.channel c).queue) (ne : c ≠ d) :
    (s.channel d).queue.head? ≠ some n := fun hd => ne ((h.apart hc).2 d (List.mem_of_mem_head? hd)).symm

/-- The state of a ticket in a channel queue is the one that the channel asks of it. -/
theorem status_queued (h : IssueLaw s) (ht : s.tickets.get n = some t) (hs : t.status.slot = some slot) {c : Fin 16}
    (hc : n ∈ (s.channel c).queue) : t.status = (s.channel c).statusOf n slot := by
  obtain ⟨-, u, y, bin, hu, status, -⟩ := h.queued c n hc
  obtain rfl := Option.some.inj (ht.symm.trans hu)
  rw [status, statusOf_slot] at hs
  cases hs
  exact status

/-- A PROMISED ticket heads no cycle. -/
theorem promised_no_cycle (h : IssueLaw s) (ht : s.tickets.get n = some t) (status : t.status = .promised slot)
    {c : Fin 16} : ¬((s.channel c).state.settled = false ∧ (s.channel c).queue.head? = some n) := by
  rintro ⟨cycle, head⟩
  have := h.status_queued ht (by rw [status]; rfl) (List.mem_of_mem_head? head)
  rw [status, Channel.statusOf, if_pos head] at this
  cases state : (s.channel c).state <;> simp [state, ChannelState.headStatus, ChannelState.settled] at this cycle

theorem removed_queued (h : IssueLaw s) (ht : s.tickets.get n = some t) (status : t.status = .promised slot) {c : Fin 16}
    (hc : n ∈ (s.channel c).queue) : Removed n s ((leaveChannelQueue n c s).freeTicket n) := by
  have own : ((leaveChannelQueue n c s).freeTicket n).channel c =
      { s.channel c with queue := (s.channel c).queue.filter fun m => m != n } := setChannel_channel s c _
  have other {d : Fin 16} (ne : c ≠ d) : ((leaveChannelQueue n c s).freeTicket n).channel d = s.channel d :=
    setChannel_channel_ne s c d _ ne
  exact
    { keys := KeepsKeys.freeTicket ((KeepsKeys.refl s).setChannel c _) n
      desk := ⟨rfl, rfl, rfl, rfl, rfl⟩
      records := rfl
      chains := rfl
      classes := rfl
      waitQueues := rfl
      tickets := rfl
      handover := (filter_ne_of_not_mem (h.apart hc).1).symm
      queues := fun d => by
        by_cases e : c = d
        · subst e; rw [own]
        · rw [other e, h.queue_filter hc e]
      enabled := fun d => by
        by_cases e : c = d
        · subst e; rw [own]
        · rw [other e]
      state := fun d => by
        rw [if_neg (h.promised_no_cycle ht status)]
        by_cases e : c = d
        · subst e; rw [own]
        · rw [other e] }

theorem removed_handed (h : IssueLaw s) (ht : s.tickets.get n = some t) (status : t.status = .promised slot)
    (hc : ∀ c, n ∉ (s.channel c).queue) :
    Removed n s ({ s with handover := s.handover.filter fun x => x != n }.freeTicket n) where
  keys := ((KeepsKeys.refl s).handover _).freeTicket n
  desk := ⟨rfl, rfl, rfl, rfl, rfl⟩
  records := rfl
  chains := rfl
  classes := rfl
  waitQueues := rfl
  tickets := rfl
  handover := rfl
  queues c := (filter_ne_of_not_mem (hc c)).symm
  enabled _ := rfl
  state c := by
    rw [if_neg (h.promised_no_cycle ht status)]
    rfl

end IssueLaw

/-! ### A channel between two cycles -/

/-- A channel set FORCED while the head of its ended cycle is dealt with. -/
def park (c : Fin 16) (s : Hall) : Hall := s.setChannel c { s.channel c with state := .forced }

theorem setChannel_comm (s : Hall) {c d : Fin 16} (x y : Channel) (ne : c ≠ d) :
    (s.setChannel c x).setChannel d y = (s.setChannel d y).setChannel c x := by
  have : c.val ≠ d.val := fun e => ne (Fin.ext e)
  simp only [Hall.setChannel]
  rw [Vector.set_comm _ _ this]

@[simp] theorem park_channel (c : Fin 16) (s : Hall) : (park c s).channel c = { s.channel c with state := .forced } :=
  setChannel_channel ..

theorem park_channel_ne {c d : Fin 16} (ne : c ≠ d) (s : Hall) : (park c s).channel d = s.channel d :=
  setChannel_channel_ne _ _ _ _ ne

/-- The channel moves on as if it had been FORCED. -/
theorem moveOn_park (c : Fin 16) (s : Hall) : moveOn c (park c s) = moveOn c s := by
  unfold moveOn
  dsimp only
  rw [park_channel, park, setChannel_setChannel]

theorem startCycle_go {c : Fin 16} {s : Hall} {n : Nat} {rest : List Nat} (idle : (s.channel c).state = .idle)
    (online : s.mode = .online) (queue : (s.channel c).queue = n :: rest) :
    startCycle c s = { s.setChannel c { s.channel c with state := .released, timer := some (s.channel c).openWindow } with
      tickets := ((s.tickets.get n).map fun t => s.tickets.put n t.release).getD s.tickets } := by
  unfold startCycle
  rw [idle, online, queue]
  dsimp only
  rw [setChannel_tickets]
  cases s.tickets.get n <;> rfl

theorem startCycle_stay {c : Fin 16} {s : Hall}
    (h : ¬((s.channel c).state = .idle ∧ s.mode = .online ∧ (s.channel c).queue ≠ [])) : startCycle c s = s := by
  unfold startCycle
  split
  · rename_i idle online queue
    exact absurd ⟨idle, online, by simp [queue]⟩ h
  · rfl

theorem park_startCycle {c d : Fin 16} {s : Hall} (busy : (s.channel c).state ≠ .idle) :
    park c (startCycle d s) = startCycle d (park c s) := by
  by_cases e : c = d
  · subst e
    rw [startCycle_busy busy, startCycle_busy (by simp)]
  · have same := park_channel_ne e s
    by_cases go : (s.channel d).state = .idle ∧ s.mode = .online ∧ (s.channel d).queue ≠ []
    · obtain ⟨idle, online, ne⟩ := go
      obtain ⟨n, rest, queue⟩ := List.exists_cons_of_ne_nil ne
      rw [startCycle_go idle online queue,
        startCycle_go (s := park c s) (by rw [same, idle]) online (by rw [same, queue]), same]
      have other := setChannel_channel_ne s d c { s.channel d with
        state := .released, timer := some (s.channel d).openWindow } (Ne.symm e)
      simp only [park]
      rw [setChannel_comm _ _ _ e, ← other]
      rfl
    · rw [startCycle_stay go, startCycle_stay (by rw [same]; exact go)]

theorem park_setQueue (c d : Fin 16) (s : Hall) (queue : List Nat) :
    park c (s.setChannel d { s.channel d with queue }) =
      (park c s).setChannel d { (park c s).channel d with queue } := by
  by_cases e : c = d
  · subst e
    simp [park]
  · rw [park_channel_ne e]
    unfold park
    rw [setChannel_channel_ne _ _ _ _ (Ne.symm e), setChannel_comm _ _ _ e]

theorem park_placeWithDrawer {c : Fin 16} {s : Hall} (busy : (s.channel c).state ≠ .idle) (n : Nat) (t : Ticket)
    (location : Location) :
    park c (placeWithDrawer n t location s).1 = (placeWithDrawer n t location (park c s)).1 := by
  unfold placeWithDrawer
  cases location with
  | drawer d bin =>
    have enabled : ((park c s).channel d).enabled = (s.channel d).enabled ∧
        ((park c s).channel d).queue = (s.channel d).queue := by
      by_cases e : c = d
      · subst e; simp
      · simp [park_channel_ne e]
    dsimp only
    rw [enabled.1, enabled.2]
    by_cases on : (s.channel d).enabled = true
    · rw [if_pos on, if_pos on]
      dsimp only
      rw [park_startCycle, park_setQueue]
      · rw [← enabled.1]
        rfl
      · by_cases e : d = c
        · subst e; simpa using busy
        · rwa [setChannel_channel_ne _ _ _ _ e]
    · rw [if_neg on, if_neg on]
      rfl
  | shelf _ | pocket _ _ | none => rfl

theorem park_promise {c : Fin 16} {s : Hall} (busy : (s.channel c).state ≠ .idle) (n : Nat) (t : Ticket) (slot : Nat)
    (r : Record) : park c (promise n t slot r s).1 = (promise n t slot r (park c s)).1 := by
  obtain ⟨waitQueues, only⟩ := bindTicket_only n t slot r s
  have bound : park c (bindTicket n t slot r s) = bindTicket n t slot r (park c s) := by
    unfold bindTicket
    cases t.status <;> rfl
  rw [promise_eq, promise_eq, park_placeWithDrawer, bound]
  rw [only]
  exact busy

theorem offer_promise {slot n : Nat} {r : Record} {t : Ticket} {s : Hall} (online : s.mode = .online)
    (hr : s.records.get slot = some r) (met : firstMet s.tickets r (s.waitQueues.list r.cls) = some (n, t)) :
    (offer slot s).hall = (promise n t slot r s).1 := by
  unfold offer
  simp only [online, hr, met]

theorem offer_stay {slot : Nat} {s : Hall} (h : ∀ r, s.mode = .online → s.records.get slot = some r →
    firstMet s.tickets r (s.waitQueues.list r.cls) = none) : (offer slot s).hall = s := by
  unfold offer
  split
  · rename_i r online hr
    rw [h r online hr]
  · rfl

theorem park_offer {c : Fin 16} {s : Hall} (busy : (s.channel c).state ≠ .idle) (slot : Nat) :
    park c (offer slot s).hall = (offer slot (park c s)).hall := by
  by_cases met : ∃ r n t, s.mode = .online ∧ s.records.get slot = some r ∧
      firstMet s.tickets r (s.waitQueues.list r.cls) = some (n, t)
  · obtain ⟨r, n, t, online, hr, met⟩ := met
    rw [offer_promise online hr met, offer_promise (s := park c s) online hr met, park_promise busy]
  · have none_ (r : Record) (online : s.mode = .online) (hr : s.records.get slot = some r) :
        firstMet s.tickets r (s.waitQueues.list r.cls) = none :=
      Option.eq_none_iff_forall_ne_some.mpr fun ⟨n, t⟩ e => met ⟨r, n, t, online, hr, e⟩
    rw [offer_stay none_, offer_stay (s := park c s) none_]

theorem park_arrive (c : Fin 16) (slot : Nat) (r : Record) (wasUsable : Bool) (s : Hall) :
    park c (arrive slot r wasUsable s) = arrive slot r wasUsable (park c s) := by
  unfold arrive
  cases wasUsable with
  | true => rfl
  | false =>
    simp only [Bool.false_eq_true, if_false, usableRise]
    change park c (match s.classes.get r.cls with | none => _ | some c => _) =
      match s.classes.get r.cls with | none => _ | some c => _
    cases s.classes.get r.cls <;> rfl

theorem park_returnPromise {c : Fin 16} {s : Hall} (busy : (s.channel c).state ≠ .idle) (slot : Nat) :
    park c (returnPromise slot s).hall = (returnPromise slot (park c s)).hall := by
  have records : (park c s).records = s.records := rfl
  unfold returnPromise
  rw [records]
  cases s.records.get slot with
  | none => rfl
  | some r =>
    simp only [enterReady_eq]
    rw [park_offer, park_arrive]
    obtain ⟨classes, e⟩ := arrive_only slot { r with opened := false } true s
    rw [e]
    exact busy

/-! ### The ends of tickets keep the law -/

namespace IssueLaw

variable {s : Hall} {n : Nat}

/-- The head of a cycle is taken out and its channel parked. -/
theorem removed_cycle (h : IssueLaw s) {c : Fin 16} (cycle : (s.channel c).state.settled = false)
    (head : (s.channel c).queue.head? = some n) : Removed n s (park c ((endCycle n c s).freeTicket n)) := by
  have hc := List.mem_of_mem_head? head
  have own : (park c ((endCycle n c s).freeTicket n)).channel c =
      { s.channel c with queue := (s.channel c).queue.filter (fun m => m != n), timer := none, state := .forced } := by
    simp [park, endCycle, leaveChannelQueue, Hall.freeTicket, Hall.channel, Hall.setChannel, Vector.get_eq_getElem]
  have other {d : Fin 16} (ne : c ≠ d) : (park c ((endCycle n c s).freeTicket n)).channel d = s.channel d := by
    rw [park_channel_ne ne]
    refine (setChannel_channel_ne (leaveChannelQueue n c s) c d _ ne).trans ?_
    exact setChannel_channel_ne s c d _ ne
  exact
    { keys := (((KeepsKeys.refl s).endCycle n c).freeTicket n).setChannel c _
      desk := ⟨rfl, rfl, rfl, rfl, rfl⟩
      records := rfl
      chains := rfl
      classes := rfl
      waitQueues := rfl
      tickets := rfl
      handover := (filter_ne_of_not_mem (h.apart hc).1).symm
      queues := fun d => by
        by_cases e : c = d
        · subst e; rw [own]
        · rw [other e, h.queue_filter hc e]
      enabled := fun d => by
        by_cases e : c = d
        · subst e; rw [own]
        · rw [other e]
      state := fun d => by
        by_cases e : c = d
        · subst e; rw [own, if_pos ⟨cycle, head⟩]
        · rw [other e, if_neg fun both => h.not_head hc e both.2] }

end IssueLaw

namespace HallLaw

variable {s : Hall} {n slot : Nat} {t : Ticket} {c : Fin 16}

theorem withdrawQueued (h : HallLaw s) (ht : s.tickets.get n = some t) (status : t.status = .promised slot)
    (hc : n ∈ (s.channel c).queue) :
    HallLaw (Machine.returnPromise slot ((leaveChannelQueue n c s).freeTicket n)).hall :=
  h.returnPromise ht (by rw [status]; rfl) (h.units.issue.removed_queued ht status hc)

theorem withdrawHanded (h : HallLaw s) (ht : s.tickets.get n = some t) (status : t.status = .promised slot)
    (hc : ∀ c, n ∉ (s.channel c).queue) :
    HallLaw (Machine.returnPromise slot ({ s with handover := s.handover.filter fun x => x != n }.freeTicket n)).hall :=
  h.returnPromise ht (by rw [status]; rfl) (h.units.issue.removed_handed ht status hc)

theorem setChannel (h : HallLaw s) (x : Channel) (alike : (s.channel c).Alike x) : HallLaw (s.setChannel c x) := by
  refine h.banks s.stations (s.setChannel c x).channels (fun _ => .refl _) fun d => ?_
  change (s.channel d).Alike ((s.setChannel c x).channel d)
  by_cases e : c = d
  · subst e
    rwa [setChannel_channel]
  · rw [setChannel_channel_ne s c d x e]
    exact .refl _

theorem drainCheck (h : HallLaw s) : HallLaw (drainCheck s) := by
  have u := h.units
  unfold Machine.drainCheck
  split
  · split
    · exact h.of_tables (Effect.mode _ s).keepsTables (u.congr rfl rfl rfl rfl rfl rfl rfl rfl rfl rfl)
    · exact h
  · exact h

/-- A parked channel moves on. -/
theorem moveOn (h : HallLaw s) (forced : (s.channel c).state = .forced) : HallLaw (moveOn c s) :=
  ((h.setChannel { s.channel c with state := .idle, timer := none } ⟨rfl, rfl, .inr (.inl ⟨forced, rfl⟩)⟩).startCycle
    c).drainCheck

theorem endCycle_busy (cycle : (s.channel c).state.settled = false) :
    (((endCycle n c s).freeTicket n).channel c).state ≠ .idle := by
  have : (((endCycle n c s).freeTicket n).channel c).state = (s.channel c).state := by
    simp [endCycle, leaveChannelQueue, Hall.freeTicket, Hall.channel, Hall.setChannel, Vector.get_eq_getElem]
  rw [this]
  intro e
  rw [e] at cycle
  cases cycle

theorem lapse (h : HallLaw s) (ht : s.tickets.get n = some t)
    (status : t.status = .released slot ∨
      ((s.channel c).state = .released ∧ (s.channel c).queue.head? = some n ∧ t.status.slot = some slot))
    (hc : n ∈ (s.channel c).queue) :
    HallLaw (Machine.moveOn c (Machine.returnPromise slot ((endCycle n c s).freeTicket n)).hall) := by
  have issue := h.units.issue
  obtain ⟨cycle, head, hs⟩ : (s.channel c).state.settled = false ∧ (s.channel c).queue.head? = some n ∧
      t.status.slot = some slot := by
    rcases status with status | ⟨state, head, hs⟩
    · have own := issue.status_queued ht (by rw [status]; rfl) hc
      rw [status, Channel.statusOf] at own
      split at own
      · rename_i head
        refine ⟨?_, head, by rw [status]; rfl⟩
        cases state : (s.channel c).state <;> simp [state, ChannelState.headStatus] at own
        rfl
      · cases own
    · exact ⟨by rw [state]; rfl, head, hs⟩
  have back := h.returnPromise ht hs (issue.removed_cycle cycle head)
  rw [← park_returnPromise (endCycle_busy cycle)] at back
  rw [← moveOn_park]
  exact back.moveOn (by rw [park_channel])

theorem handOver (h : HallLaw s) (ht : s.tickets.get n = some t) (hn : n ∈ s.handover) :
    HallLaw (complete n t { s with handover := s.handover.filter fun x => x != n }).1 := by
  have issue := h.units.issue
  obtain ⟨u, slot, location, hu, status, -, -⟩ := issue.handed n hn
  obtain rfl := Option.some.inj (ht.symm.trans hu)
  obtain ⟨r, hr, -, -⟩ := h.held_record ht (slot := slot) (by rw [status]; rfl)
  have gone := issue.removed_handed ht status fun c hc => (issue.apart hc).1 hn
  rw [complete_eq (slot := slot) (s := { s with handover := s.handover.filter fun x => x != n }) (by rw [status]; rfl) hr]
  exact (h.remove ht (by rw [status]; rfl) hr gone (r' := { r with
    status := .out, location := .none, dest := t.dest, outAge := 0, opened := false }) rfl rfl rfl rfl).countIssue _

theorem park_countIssue (c : Fin 16) (cls : Nat) (s : Hall) :
    park c (Machine.countIssue cls s) = Machine.countIssue cls (park c s) := by
  have classes : (park c s).classes = s.classes := rfl
  unfold Machine.countIssue
  rw [classes]
  cases s.classes.get cls <;> rfl

theorem countIssue_channel (c : Fin 16) (cls : Nat) (s : Hall) :
    (Machine.countIssue cls s).channel c = s.channel c := by
  unfold Machine.countIssue
  split <;> rfl

theorem takeEnds (h : HallLaw s) (ht : s.tickets.get n = some t)
    (state : (s.channel c).state = .opened ∨ (s.channel c).state = .ajar)
    (head : (s.channel c).queue.head? = some n) : HallLaw (Machine.moveOn c (complete n t (endCycle n c s)).1) := by
  have issue := h.units.issue
  have cycle : (s.channel c).state.settled = false := by rcases state with e | e <;> rw [e] <;> rfl
  obtain ⟨-, u, slot, bin, hu, status, -⟩ := issue.queued c n (List.mem_of_mem_head? head)
  obtain rfl := Option.some.inj (ht.symm.trans hu)
  have hs : t.status.slot = some slot := by rw [status, statusOf_slot]
  obtain ⟨r, hr, -, -⟩ := h.held_record ht hs
  rw [complete_eq hs (s := endCycle n c s) hr, ← moveOn_park, park_countIssue]
  refine ((h.remove ht hs hr (issue.removed_cycle cycle head) (r' := { r with
    status := .out, location := .none, dest := t.dest, outAge := 0, opened := false }) rfl rfl rfl rfl).countIssue
      _).moveOn ?_
  rw [countIssue_channel]
  exact congrArg Channel.state (park_channel c _)

end HallLaw

end Sys2Proof.Machine

/-! ## Drawers opened, channels switched, tickets aged and chains offered -/

namespace Sys2Proof.Machine

/-! ### A drawer is opened -/

/-- The drawer of a channel is opened on a head that is RELEASED (R112). -/
theorem takeStarts_eq {s : Hall} {c : Fin 16} {n slot : Nat} {t : Ticket} {r : Record}
    (head : (s.channel c).queue.head? = some n) (ht : s.tickets.get n = some t) (status : t.status = .released slot)
    (hr : s.records.get slot = some r) :
    takeStarts c s = ((s.setChannel c { s.channel c with
      state := .opened, timer := some (s.channel c).takeWindow }).putTicket n { t with status := .opened slot }).putRecord
        slot { r with opened := true } := by
  have opened : t.openDrawer = { t with status := .opened slot } := by
    unfold Ticket.openDrawer
    rw [status]
  obtain ⟨rest, queue⟩ : ∃ rest, (s.channel c).queue = n :: rest := by
    cases hq : (s.channel c).queue with
    | nil => simp [hq] at head
    | cons m rest => exact ⟨rest, by simpa [hq] using head⟩
  unfold takeStarts
  simp only [queue, setChannel_tickets, ht, opened, status, TicketStatus.slot, putTicket_records, setChannel_records, hr]

namespace HallLaw

variable {s : Hall} {c : Fin 16}

theorem takeStarts (h : HallLaw s) (state : (s.channel c).state = .released) : HallLaw (takeStarts c s) := by
  have u := h.units
  have cycle : (s.channel c).state.settled = false := by rw [state]; rfl
  obtain ⟨n, rest, queue⟩ := List.exists_cons_of_ne_nil (u.issue.heads c cycle)
  have head : (s.channel c).queue.head? = some n := by rw [queue]; rfl
  obtain ⟨-, t, slot, bin, ht, status, -⟩ := u.issue.queued c n (List.mem_of_mem_head? head)
  have status : t.status = .released slot := by rw [status, Channel.statusOf, if_pos head, state]; rfl
  have hs : t.status.slot = some slot := by rw [status]; rfl
  obtain ⟨r, hr, promised, alive⟩ := h.held_record ht hs
  have keeps := (Effect.takeStarts s c state).keepsTables
  rw [takeStarts_eq head ht status hr] at keeps ⊢
  have own := setChannel_channel s c { s.channel c with state := .opened, timer := some (s.channel c).takeWindow }
  have other {d : Fin 16} (ne : c ≠ d) :=
    setChannel_channel_ne s c d { s.channel c with state := .opened, timer := some (s.channel c).takeWindow } ne
  refine h.of_tables keeps
    { store := u.store.quiet h.tables.records hr (r' := { r with opened := true }) rfl rfl rfl rfl
        (fun zero => by simp only at zero; omega) rfl rfl
      issue := u.issue.headMoves head ht hs (state := .opened) rfl rfl (fun m => get_put ..)
        (promisedAt_same (slot := slot) (r' := { r with opened := true }) rfl (promisedAt_of_get hr).symm) rfl rfl
        (fun d => ?_) (fun d => ?_) fun d => ?_
      mount := u.mount.congr rfl rfl
        (mountedAt_same (slot := slot) (r' := { r with opened := true }) rfl (mountedAt_of_get hr).symm)
      gauge := u.gauge.congr rfl
        (gaugingAt_same (slot := slot) (r' := { r with opened := true }) rfl (gaugingAt_of_get hr).symm) }
  all_goals
    by_cases e : c = d
    · subst e
      simp [Hall.channel, Hall.putTicket, Hall.putRecord, Hall.setChannel, Vector.get_eq_getElem]
    · simp -failIfUnchanged only [if_neg e]
      exact congrArg _ (other e)

/-! ### Channels enabled and disabled -/

theorem enable (h : HallLaw s) {x : Channel} (old : (s.channel c).enabled = false) (new : x.enabled = true)
    (state : x.state = .idle) (queue : x.queue = (s.channel c).queue) (hand : handoverInDrawer c s = false) :
    HallLaw (s.setChannel c x) := by
  have u := h.units
  have empty := u.issue.empty old
  refine h.of_tables (Effect.enable s c x old new state queue hand).keepsTables
    { store := u.store.congr rfl rfl rfl
      issue := u.issue.switch empty (by rw [queue, empty]) (by rw [state, new]; rfl)
        fun _ n t slot cls bin hn ht status view => ?_
      mount := u.mount.congr rfl rfl fun _ => rfl
      gauge := u.gauge.congr rfl fun _ => rfl }
  obtain ⟨r, hr, -, -, location⟩ := promisedAt_eq_some.mp view
  have inside := List.any_eq_false.mp hand n hn
  simp [ticketRecord, ht, status, TicketStatus.slot, hr, location, Location.inDrawer] at inside

theorem disable (h : HallLaw s) {x : Channel} (empty : (s.channel c).queue = [])
    (idle : (s.channel c).state = .idle) (new : x.enabled = false) (state : x.state = .off) (queue : x.queue = []) :
    HallLaw (s.setChannel c x) := by
  have u := h.units
  exact h.of_tables (Effect.disable s c x empty idle new state queue).keepsTables
    { store := u.store.congr rfl rfl rfl
      issue := u.issue.switch empty queue (by rw [state, new]; rfl) fun on => by rw [new] at on; cases on
      mount := u.mount.congr rfl rfl fun _ => rfl
      gauge := u.gauge.congr rfl fun _ => rfl }

end HallLaw

/-! ### Every list of a table in turn -/

/-- The lists of a table, one after another, repeat nothing when no list does and no two lists share an entry. -/
theorem nodup_flatMap_lists {t : Table (List Nat)} (wf : t.wf) (nodup : ∀ n, (t.list n).Nodup)
    (apart : ∀ m n x, x ∈ t.list m → x ∈ t.list n → m = n) : (t.flatMap Prod.snd).Nodup := by
  have list {e : Nat × List Nat} (he : e ∈ t) : t.list e.1 = e.2 := by
    rw [Table.list, get_of_mem wf he]
    rfl
  refine List.nodup_flatMap.mpr ⟨fun e he => list he ▸ nodup e.1, wf.imp_of_mem fun {a b} ha hb below x hxa hxb => ?_⟩
  have same := apart a.1 b.1 x (by rw [list ha]; exact hxa) (by rw [list hb]; exact hxb)
  omega

theorem mem_flatMap_lists {t : Table (List Nat)} (wf : t.wf) {x : Nat} (h : x ∈ t.flatMap Prod.snd) :
    ∃ n, x ∈ t.list n := by
  obtain ⟨e, he, hx⟩ := List.mem_flatMap.mp h
  exact ⟨e.1, by rw [Table.list, get_of_mem wf he]; exact hx⟩

theorem HallLaw.offerEach {s : Hall} (h : HallLaw s) {slots : List Nat} (nodup : slots.Nodup)
    (ready : ∀ slot ∈ slots, ∃ r, s.records.get slot = some r ∧ r.status = .ready) : HallLaw (offerEach slots s).1 := by
  induction slots generalizing s with
  | nil => exact h
  | cons slot rest ih =>
    obtain ⟨fresh, nodup⟩ := List.nodup_cons.mp nodup
    obtain ⟨r, hr, status⟩ := ready slot List.mem_cons_self
    refine ih (h.offer hr status) nodup fun x hx => ?_
    obtain ⟨rx, hrx, e⟩ := ready x (List.mem_cons_of_mem _ hx)
    refine ⟨rx, ?_, e⟩
    rcases offer_records slot s with same | ⟨_, -, put⟩
    · rw [same, hrx]
    · rw [put, get_put_ne _ _ _ _ fun e : slot = x => fresh (e ▸ hx), hrx]

theorem HallLaw.offers {s : Hall} (h : HallLaw s) : HallLaw (Machine.offerEach (s.chains.flatMap Prod.snd) s).1 := by
  have chains := h.units.store.chains
  refine h.offerEach (nodup_flatMap_lists h.tables.chains chains.nodup fun m n x hm hn => ?_) fun slot hs => ?_
  · obtain ⟨l, t, km⟩ := (chains.member m x).mp hm
    obtain ⟨l', t', kn⟩ := (chains.member n x).mp hn
    rw [km] at kn
    cases kn
    rfl
  · obtain ⟨cls, hs⟩ := mem_flatMap_lists h.tables.chains hs
    obtain ⟨life, tool, key⟩ := (chains.member cls slot).mp hs
    obtain ⟨r, hr, status, -⟩ := readyAt_eq_some.mp key
    exact ⟨r, hr, status⟩

/-! ### The sweep of the wait queues -/

/-- A ticket that ages leaves every other ticket alone. -/
theorem ageTicket_other {n m : Nat} (ne : n ≠ m) (s : Hall) : (ageTicket n s).1.tickets.get m = s.tickets.get m := by
  unfold ageTicket
  split
  · rfl
  · dsimp only
    split
    · exact get_put_ne _ _ _ _ ne
    · split
      · refine (get_del ..).trans (if_neg ne)
      · split
        · exact get_put_ne _ _ _ _ ne
        · exact get_put_ne _ _ _ _ ne

namespace IssueLaw

variable {s : Hall} {n : Nat} {t : Ticket}

/-- A WAITING ticket goes to the tail of another band (R103). -/
theorem promote (h : IssueLaw s) (ht : s.tickets.get n = some t) (waiting : t.status = .waiting) {t' : Ticket}
    (status : t'.status = t.status) (cls : t'.cls = t.cls) :
    IssueLaw (joinWaitQueue n t' ((leaveWaitQueue n t.cls s).putTicket n t')) := by
  refine (h.dropWaiting ht waiting).addWaiting (n := n) (x := t') (get_del_self ..) (status.trans waiting)
    (by rw [cls]; exact h.defined n t ht) (fun m => ?_) (fun c => ?_) rfl rfl rfl rfl
  · refine (get_put ..).trans ?_
    split
    · rfl
    · rename_i ne
      exact ((get_del ..).trans (if_neg ne)).symm
  · refine (list_putList ..).trans ?_
    split
    · subst_vars; rfl
    · rfl

theorem ageTicket (h : IssueLaw s) (ht : s.tickets.get n = some t) (waiting : t.status = .waiting) :
    IssueLaw (ageTicket n s).1 := by
  unfold Machine.ageTicket
  rw [ht]
  dsimp only
  split
  · exact h.retag ht rfl rfl rfl
  · split
    · exact h.dropWaiting ht waiting
    · split
      · exact h.promote ht waiting (t' := { t with age := ageUp t.age, band := .stop }) rfl rfl
      · exact h.retag ht rfl rfl rfl

end IssueLaw

/-- What a ticket that ages leaves alone. -/
theorem ageTicket_only (n : Nat) (s : Hall) :
    ∃ tickets waitQueues, (ageTicket n s).1 = { s with tickets := tickets, waitQueues := waitQueues } := by
  unfold ageTicket
  split
  · exact ⟨s.tickets, s.waitQueues, rfl⟩
  · dsimp only
    split
    · exact ⟨_, _, rfl⟩
    · split
      · exact ⟨_, _, rfl⟩
      · split <;> exact ⟨_, _, rfl⟩

theorem HallLaw.ageTicket {s : Hall} {n : Nat} {t : Ticket} (h : HallLaw s) (ht : s.tickets.get n = some t)
    (waiting : t.status = .waiting) : HallLaw (ageTicket n s).1 := by
  have u := h.units
  have issue := u.issue.ageTicket ht waiting
  have keys := (KeepsKeys.refl s).ageTicket n
  obtain ⟨tickets, waitQueues, e⟩ := ageTicket_only n s
  rw [e] at issue keys ⊢
  exact h.of_keys keys
    { store := u.store.congr rfl rfl rfl
      issue
      mount := u.mount.congr rfl rfl fun _ => rfl
      gauge := u.gauge.congr rfl fun _ => rfl }

theorem HallLaw.ageEach {s : Hall} (h : HallLaw s) {l : List Nat} (nodup : l.Nodup)
    (waiting : ∀ n ∈ l, ∃ t, s.tickets.get n = some t ∧ t.status = .waiting) : HallLaw (ageTickets l s).1 := by
  induction l generalizing s with
  | nil => exact h
  | cons n rest ih =>
    obtain ⟨fresh, nodup⟩ := List.nodup_cons.mp nodup
    obtain ⟨t, ht, status⟩ := waiting n List.mem_cons_self
    refine ih (h.ageTicket ht status) nodup fun m hm => ?_
    obtain ⟨u, hu, e⟩ := waiting m (List.mem_cons_of_mem _ hm)
    exact ⟨u, by rw [ageTicket_other (fun e : n = m => fresh (e ▸ hm)), hu], e⟩

theorem HallLaw.ageTickets {s : Hall} (h : HallLaw s) : HallLaw (sweepTickets s).1 := by
  have issue := h.units.issue
  refine h.ageEach (nodup_flatMap_lists h.tables.waitQueues issue.waitNodup fun k m n hk hm => ?_) fun n hn => ?_
  · obtain ⟨t, ht, -, rfl⟩ := (issue.waiting k n).mp hk
    obtain ⟨u, hu, -, rfl⟩ := (issue.waiting m n).mp hm
    rw [Option.some.inj (ht.symm.trans hu)]
  · obtain ⟨k, hk⟩ := mem_flatMap_lists h.tables.waitQueues hn
    obtain ⟨t, ht, status, -⟩ := (issue.waiting k n).mp hk
    exact ⟨t, ht, status⟩

end Sys2Proof.Machine

/-! ## Starts and WIPE keep the law of the hall, and so does every step -/

namespace Sys2Proof.Machine

/-! ### Units without work -/

/-- The issue unit's law of a hall without tickets. -/
theorem IssueLaw.of_empty {s : Hall} (tickets : s.tickets = []) (waitQueues : s.waitQueues = [])
    (handover : s.handover = []) (promised : ∀ x, s.promisedAt x = none) (queues : ∀ c, (s.channel c).queue = [])
    (settled : ∀ c, (s.channel c).state.settled = true)
    (off : ∀ c, (s.channel c).state = .off ↔ (s.channel c).enabled = false) : IssueLaw s := by
  constructor <;> simp [tickets, waitQueues, handover, promised, queues, settled, off, Channel.ordered, Table.list,
    BandsRise]

/-- The presetting unit's law of a hall without sessions. -/
theorem GaugeLaw.of_idle {s : Hall} (session : ∀ n, (s.station n).session = none)
    (idle : ∀ n, (s.station n).state.isGauging = false) (gauging : ∀ x, s.gaugingAt x = false)
    (active : ∀ n, (s.station n).state ≠ .uncal → (s.station n).active.isSome = true)
    (pending : ∀ n, (s.station n).pending = false) : GaugeLaw s := by
  have none_ {n : Fin 4} {x : Session} (hx : (s.station n).session = some x) : False := by
    rw [session] at hx
    cases hx
  exact
    { session := fun n => by rw [session, idle]; rfl
      tool := fun _ _ _ hx => (none_ hx).elim
      single := fun _ _ _ _ _ hx => (none_ hx).elim
      gauged := fun x on => by rw [gauging] at on; cases on
      active
      pending := fun n on => by rw [pending] at on; cases on }

theorem get_cons {α : Type} (k n : Nat) (v : α) (rest : Table α) :
    Table.get ((k, v) :: rest) n = if k = n then some v else rest.get n := rfl

/-- Chains that list nothing, where no slot has a key. -/
theorem ChainsOk.empty {key : Nat → Option (Nat × Nat × Nat)} (none_ : ∀ x, key x = none) : ChainsOk key [] := by
  constructor <;> simp [none_, Table.list]

/-- The record store's law of a hall without records. -/
theorem StoreLaw.of_empty {s : Hall} (records : s.records = []) (chains : s.chains = [])
    (fullLife : ∀ cls c, s.classes.get cls = some c → 1 ≤ c.shape.fullLife)
    (counts : ∀ cls c, s.classes.get cls = some c → c.usable = 0 ∧ c.low = decide (c.usable < c.policy.minStock)) :
    StoreLaw s where
  fullLife := fullLife
  defined := by simp [records]
  life := by simp [records]
  chains := chains ▸ .empty fun x => by simp [Hall.readyAt, records]
  counts cls c hc := by
    rw [show s.usableIn cls = 0 by simp [Hall.usableIn, records, Table.count]]
    exact counts cls c hc

/-- The pocket unit's law of a hall without bindings and MOUNTED records. -/
theorem MountLaw.of_empty {s : Hall} (bindings : s.bindings = []) (mounted : ∀ x, s.mountedAt x = none) :
    MountLaw s := by
  constructor <;> simp [bindings, mounted]

/-! ### WIPE and the cold start -/

/-- A hall that is not busy: no station is GAUGING and every channel is IDLE or OFF (R199). -/
theorem wipeBusy_false {s : Hall} (h : wipeBusy s = false) :
    (∀ n, (s.station n).state.isGauging = false) ∧ ∀ c, (s.channel c).state = .idle ∨ (s.channel c).state = .off := by
  obtain ⟨stations, channels⟩ := Bool.or_eq_false_iff.mp h
  refine ⟨fun n => ?_, fun c => ?_⟩
  · simpa using List.any_eq_false.mp stations (s.station n) (Vector.mem_toList_iff.mpr (Vector.getElem_mem n.isLt))
  · simpa [or_iff_not_imp_left] using
      List.any_eq_false.mp channels (s.channel c) (Vector.mem_toList_iff.mpr (Vector.getElem_mem c.isLt))

/-- What WIPE leaves of a hall that is not busy (R199). -/
theorem wipeHall_idle {s : Hall} (h : wipeBusy s = false) : ∃ channels classes, (wipeHall s).hall = { s with
      records := [], index := [], chains := [], tickets := [], waitQueues := [], channels, handover := [],
      bindings := [], classes } ∧
    (∀ c, channels.get c = { s.channel c with queue := [] }) ∧
      ∀ cls, Table.get classes cls = (s.classes.get cls).map ClassEntry.wiped := by
  refine ⟨mapBank (fun x => { x with queue := [] }) s.channels, s.classes.mapValues ClassEntry.wiped, ?_, fun c => ?_,
    fun cls => get_mapValues ..⟩
  · unfold wipeHall
    rw [if_neg (by simp [h])]
    rfl
  · rw [mapBank_get]
    rfl

namespace HallLaw

variable {s : Hall}

theorem wipe (h : HallLaw s) : HallLaw (wipeHall s).hall := by
  have u := h.units
  have keeps := (Effect.wipe s).keepsTables
  cases busy : wipeBusy s with
  | true =>
    unfold wipeHall
    rw [if_pos busy]
    exact h
  | false =>
    obtain ⟨idle, still⟩ := wipeBusy_false busy
    obtain ⟨channels, classes, e, channel, wiped⟩ := wipeHall_idle busy
    rw [e] at keeps ⊢
    refine h.of_tables keeps
      { store := .of_empty rfl rfl (fun cls c hc => ?_) fun cls c hc => ?_
        issue := .of_empty rfl rfl rfl (fun _ => rfl) (fun c => congrArg Channel.queue (channel c)) (fun c => ?_)
          fun c => ?_
        mount := .of_empty rfl fun _ => rfl
        gauge := .of_idle (fun n => u.gauge.no_session (idle n)) idle (fun _ => rfl) u.gauge.active fun n => ?_ }
    · obtain ⟨d, hd, rfl⟩ := Option.map_eq_some_iff.mp ((wiped cls).symm.trans hc)
      exact u.store.fullLife cls d hd
    · obtain ⟨d, hd, rfl⟩ := Option.map_eq_some_iff.mp ((wiped cls).symm.trans hc)
      exact ⟨rfl, rfl⟩
    · change (channels.get c).state.settled = true
      rw [channel]
      rcases still c with e | e <;> rw [e] <;> rfl
    · change (channels.get c).state = .off ↔ (channels.get c).enabled = false
      rw [channel]
      exact u.issue.off c
    · exact Bool.eq_false_iff.mpr fun on => by
        have := (u.gauge.pending n on).1
        rw [idle n] at this
        cases this

theorem cold (h : HallLaw s) (levels : Vector DrawerLevel 16) : HallLaw (coldStart levels s) := by
  have station (n : Fin 4) : (coldStart levels s).station n = Station.cold := by
    simp [coldStart, Hall.cold, Hall.station, Vector.get_eq_getElem]
  have channel (c : Fin 16) : (coldStart levels s).channel c = Channel.cold (levels.get c) := by
    simp [coldStart, Hall.cold, Hall.channel, Vector.get_eq_getElem]
  exact h.of_tables (Effect.cold s levels).keepsTables
    { store := .of_empty rfl rfl (fun _ _ hc => nomatch hc) fun _ _ hc => nomatch hc
      issue := .of_empty rfl rfl rfl (fun _ => rfl) (fun c => by rw [channel]; rfl) (fun c => by rw [channel]; rfl)
        fun c => by rw [channel]; simp [Channel.cold]
      mount := .of_empty rfl fun _ => rfl
      gauge := .of_idle (fun n => by rw [station]; rfl) (fun n => by rw [station]; rfl) (fun _ => rfl)
        (fun n hn => absurd (by rw [station]; rfl) hn) fun n => by rw [station]; rfl }

end HallLaw

/-! ### The warm start -/

theorem settle_cls (r : Record) : r.settle.cls = r.cls := by
  unfold Record.settle
  split
  · rfl
  · split <;> rfl
  · rfl

/-- What a warm start makes of a record: as it was, or in a state that no other unit refers to (R22). -/
theorem settle_cases (r : Record) : (r.settle = r ∧ r.status.isGauging = false ∧ r.status ≠ .promised) ∨
    ((r.status.isGauging = true ∨ r.status = .promised) ∧ r.settle.status.unheld = true ∧ r.settle.life = r.life) := by
  unfold Record.settle
  split
  · rename_i resume e
    refine .inr ⟨.inl (by rw [e]; rfl), ?_, rfl⟩
    cases resume <;> rfl
  · rename_i e
    refine .inr ⟨.inr e, ?_⟩
    split <;> exact ⟨rfl, rfl⟩
  · rename_i gauging promised
    refine .inl ⟨rfl, ?_, promised⟩
    cases e : r.status with
    | gauging resume => exact absurd e (gauging resume)
    | _ => rfl

theorem settle_mountedView (r : Record) : r.settle.mountedView = r.mountedView := by
  rcases settle_cases r with ⟨e, -, -⟩ | ⟨before, after, -⟩
  · rw [e]
  · rw [mountedView_unheld after, Record.mountedView, if_neg]
    intro e
    rcases before with g | p
    · rw [e] at g; cases g
    · rw [e] at p; cases p

theorem settle_unpromised (r : Record) : r.settle.promisedView = none ∧ r.settle.status.isGauging = false := by
  rcases settle_cases r with ⟨e, gauging, promised⟩ | ⟨-, after, -⟩
  · rw [e]
    exact ⟨if_neg promised, gauging⟩
  · exact ⟨promisedView_unheld after, isGauging_unheld after⟩

theorem settle_lifeOk {r : Record} (h : r.LifeOk) : r.settle.LifeOk := by
  rcases settle_cases r with ⟨e, -, -⟩ | ⟨before, -, life⟩
  · rwa [e]
  · intro zero
    rcases before with g | p <;> rcases h (life ▸ zero) with e | e | e <;> simp_all [RecordStatus.isGauging]

/-- The chains rebuilt from a part of the records whose tool numbers are all different (R22, R11). -/
theorem rebuildChains_ok {records l : Table Record} (part : ∀ e ∈ l, records.get e.1 = some e.2) (wf : l.wf)
    (distinct : ∀ a b ra rb, records.get a = some ra → records.get b = some rb → ra.tool = rb.tool → a = b) :
    ChainsOk (fun x => (l.get x).bind Record.readyKey) (rebuildChains records l) := by
  induction l with
  | nil => exact .empty fun _ => rfl
  | cons e rest ih =>
    obtain ⟨slot, r⟩ := e
    obtain ⟨above, later⟩ := List.pairwise_cons.mp wf
    have others := ih (fun e he => part e (List.mem_cons_of_mem _ he)) later
    have hr : records.get slot = some r := part (slot, r) List.mem_cons_self
    have apart : Table.get rest slot = none := by
      cases found : Table.get rest slot with
      | none => rfl
      | some rx =>
        have := above _ (mem_of_get _ _ _ found)
        simp at this
    have key (x : Nat) : (Table.get ((slot, r) :: rest) x).bind Record.readyKey =
        if slot = x then r.readyKey else (Table.get rest x).bind Record.readyKey := by
      rw [get_cons]
      split <;> rfl
    unfold rebuildChains
    dsimp only
    split
    · rename_i ready
      refine others.join hr (by simp [apart]) (fun x cls life tool hx => ?_) ?_ fun x hx => ?_
      · obtain ⟨rx, hrx, view⟩ := Option.bind_eq_some_iff.mp hx
        obtain ⟨-, -, rfl, rfl⟩ := readyKey_eq_some.mp view
        have there := part (x, rx) (List.mem_cons_of_mem _ (mem_of_get _ _ _ hrx))
        refine ⟨rx, there, rfl, rfl, fun same => ?_⟩
        obtain rfl := distinct x slot rx r there hr same
        rw [apart] at hrx
        cases hrx
      · rw [key, if_pos rfl]
        exact readyKey_eq_some.mpr ⟨ready, rfl, rfl, rfl⟩
      · rw [key, if_neg (Ne.symm hx)]
    · rename_i ready
      refine others.congr fun x => ?_
      rw [key]
      split
      · subst_vars
        simp [apart, Record.readyKey, ready]
      · rfl

theorem get_recounted (records : Table Record) (classes : Table ClassEntry) (cls : Nat) :
    Table.get (classes.map fun e => (e.1, recount records e.1 e.2)) cls = (classes.get cls).map (recount records cls) := by
  induction classes with
  | nil => rfl
  | cons e rest ih =>
    rw [List.map_cons, get_cons, get_cons]
    split
    · subst_vars; rfl
    · exact ih

section WarmStart

variable (s : Hall) (cause : StartCause)

theorem warmStart_records (slot : Nat) :
    (warmStart cause s).records.get slot = (s.records.get slot).map Record.settle := get_mapValues ..

theorem warmStart_station (n : Fin 4) : (warmStart cause s).station n = (s.station n).settle :=
  mapBank_get Station.settle s.stations n

theorem warmStart_channel (c : Fin 16) : (warmStart cause s).channel c = (s.channel c).settle :=
  mapBank_get Channel.settle s.channels c

theorem warmStart_classes (cls : Nat) :
    (warmStart cause s).classes.get cls = (s.classes.get cls).map (recount (warmStart cause s).records cls) :=
  get_recounted ..

/-- The rebuilt chains hold the READY records. -/
theorem warmStart_chains {s : Hall} (tables : TablesLaw s) (index : IndexLaw s) :
    ChainsOk (warmStart cause s).readyAt (warmStart cause s).chains := by
  have wf : (warmStart cause s).records.wf := wf_mapValues _ _ tables.records
  have index := warmStart_index tables index cause
  exact rebuildChains_ok (records := (warmStart cause s).records) (l := (warmStart cause s).records)
    (fun e he => get_of_mem wf he) wf fun a b ra rb ha hb tool => index.slot_unique ha hb tool

end WarmStart

/-- A channel that starts warm has no cycle, and is OFF exactly when it is disabled (R125). -/
theorem settle_channel (x : Channel) :
    x.settle.queue = [] ∧ x.settle.state.settled = true ∧ (x.settle.state = .off ↔ x.settle.enabled = false) := by
  unfold Channel.settle
  cases x.enabled <;> cases x.filter <;> simp [ChannelState.settled]

/-- A station that starts warm has no session and no staged set (R58). -/
theorem settle_station (x : Station) : x.settle.session = none ∧ x.settle.state.isGauging = false ∧
    x.settle.pending = false ∧ x.settle.active = x.active ∧ (x.settle.state ≠ .uncal → x.state ≠ .uncal) := by
  unfold Station.settle
  cases x.state with
  | gauging entry => cases entry <;> simp [StationState.isGauging, EntryState.state]
  | _ => simp [StationState.isGauging]

theorem StoreLaw.warm {s : Hall} (h : StoreLaw s) (tables : TablesLaw s) (index : IndexLaw s) (cause : StartCause) :
    StoreLaw (warmStart cause s) where
  fullLife cls c hc := by
    obtain ⟨d, hd, rfl⟩ := Option.map_eq_some_iff.mp ((warmStart_classes s cause cls).symm.trans hc)
    exact h.fullLife cls d hd
  defined slot r hr := by
    obtain ⟨x, hx, rfl⟩ := Option.map_eq_some_iff.mp ((warmStart_records s cause slot).symm.trans hr)
    rw [settle_cls, Table.has, warmStart_classes, Option.isSome_map]
    exact h.defined slot x hx
  life slot r hr := by
    obtain ⟨x, hx, rfl⟩ := Option.map_eq_some_iff.mp ((warmStart_records s cause slot).symm.trans hr)
    exact settle_lifeOk (h.life slot x hx)
  chains := warmStart_chains cause tables index
  counts cls c hc := by
    obtain ⟨d, -, rfl⟩ := Option.map_eq_some_iff.mp ((warmStart_classes s cause cls).symm.trans hc)
    refine ⟨?_, rfl⟩
    unfold Hall.usableIn
    rw [show Record.countsIn cls = fun r => r.cls == cls && r.usable from funext (countsIn_eq cls)]
    rfl

theorem HallLaw.warm {s : Hall} (h : HallLaw s) (cause : StartCause) : HallLaw (warmStart cause s) := by
  have u := h.units
  have seen {β : Type} (view : Record → Option β) (x : Nat) : ((warmStart cause s).records.get x).bind view =
      (s.records.get x).bind fun r => view r.settle := by
    rw [warmStart_records]
    cases s.records.get x <;> rfl
  have promised (x : Nat) : (warmStart cause s).promisedAt x = none := by
    refine (seen Record.promisedView x).trans ?_
    cases s.records.get x with
    | none => rfl
    | some r => exact (settle_unpromised r).1
  have gauging (x : Nat) : (warmStart cause s).gaugingAt x = false := by
    rw [Hall.gaugingAt, warmStart_records]
    cases s.records.get x with
    | none => rfl
    | some r => exact (settle_unpromised r).2
  have mounted (x : Nat) : (warmStart cause s).mountedAt x = s.mountedAt x := by
    refine (seen Record.mountedView x).trans ?_
    exact congrArg _ (funext settle_mountedView)
  exact h.of_tables (Effect.warm s cause).keepsTables
    { store := u.store.warm h.tables h.index cause
      issue := .of_empty rfl rfl rfl promised (fun c => by rw [warmStart_channel, (settle_channel _).1])
        (fun c => by rw [warmStart_channel, (settle_channel _).2.1])
        fun c => by rw [warmStart_channel]; exact (settle_channel _).2.2
      mount := u.mount.congr rfl rfl mounted
      gauge := .of_idle (fun n => by rw [warmStart_station, (settle_station _).1])
        (fun n => by rw [warmStart_station, (settle_station _).2.1]) gauging
        (fun n hn => by
          rw [warmStart_station] at hn ⊢
          obtain ⟨-, -, -, active, calibrated⟩ := settle_station (s.station n)
          rw [active]
          exact u.gauge.active n (calibrated hn))
        fun n => by rw [warmStart_station, (settle_station _).2.2.1] }

/-! ### Every effect -/

theorem Effect.hallLaw {s t : Hall} (e : Effect s t) (h : HallLaw s) : HallLaw t := by
  induction e with
  | trans _ _ ih₁ ih₂ => exact ih₂ (ih₁ h)
  | config s mode sweep flags enables startKind startCause freeIndex =>
    exact h.of_tables (Effect.config s mode sweep flags enables startKind startCause freeIndex).keepsTables
      (h.units.congr rfl rfl rfl rfl rfl rfl rfl rfl rfl rfl)
  | program s p x =>
    exact h.of_tables (Effect.program s p x).keepsTables (h.units.congr rfl rfl rfl rfl rfl rfl rfl rfl rfl rfl)
  | client s n e _ _ work => exact h.client n e work
  | banks s stations channels hs hc => exact h.banks stations channels hs hc
  | enrol s slot tool cls life location c hc free hs => exact h.enrol life location hc free hs
  | free s slot r hr status => exact h.free hr status
  | freeReady s slot r hr status => exact h.freeReady hr status
  | record s slot r r' hr alike => exact h.record hr alike
  | hold s slot r r' reason hr status tool cls life => exact h.hold reason hr status tool cls life
  | holdOut s slot r r' reason hr status alive tool cls life => exact h.holdOut reason hr status alive tool cls life
  | ready s slot r r' hr status alive tool cls life => exact h.ready hr status alive tool cls life
  | offer s slot r hr status => exact h.offer hr status
  | offers s => exact h.offers
  | defineClass s cls c free life usable low => exact h.defineClass free life usable low
  | redefineClass s cls c c' hc life usable low => exact h.redefineClass hc life usable low
  | counters s cls c issues rejects hc => exact h.counters issues rejects hc
  | deleteClass s cls idle => exact h.deleteClass idle
  | calibrate s n => exact h.calibrate n
  | beginMaster s n entry state => exact h.beginMaster state
  | beginLoose s n slot r resume state hr loose worn => exact h.beginLoose state hr loose worn
  | beginReady s n slot r state hr ready => exact h.beginReady state hr ready
  | closeMaster s n x state hx kind hs => exact h.closeMaster hx kind hs
  | closeLoose s n x slot r r' state hx kind hr tool cls life status hs =>
    exact h.closeLoose hx kind hr tool cls life status hs
  | closeReady s n x slot r r' state hx kind hr tool cls life hs => exact h.closeReady hx kind hr tool cls life hs
  | wait s n t free status cls => exact h.wait free status cls
  | promiseNew s n t slot r free hr ready => exact h.promiseNew free hr ready
  | dropWaiting s n t ht status => exact h.dropWaiting ht status
  | withdrawQueued s n t slot c ht status hc => exact h.withdrawQueued ht status hc
  | withdrawHanded s n t slot ht status hc => exact h.withdrawHanded ht status hc
  | lapse s n t slot c ht status hc => exact h.lapse ht status hc
  | lapseStray s n t slot ht status hc =>
    -- A RELEASED ticket of a lawful hall heads its channel's queue.
    rcases h.units.issue.placed n t slot ht (by rw [status]; rfl) with hand | ⟨c, hn⟩
    · obtain ⟨u, x, l, hu, promised, -⟩ := h.units.issue.handed n hand
      rw [← Option.some.inj (ht.symm.trans hu), status] at promised
      cases promised
    · exact absurd hn (hc c)
  | handOver s n t ht hn => exact h.handOver ht hn
  | takeEnds s n t c ht state head => exact h.takeEnds ht state head
  | cycleStray s t c state head ht =>
    -- A cycle of a lawful hall has a head that holds a record.
    obtain ⟨n, rest, queue⟩ := List.exists_cons_of_ne_nil (h.units.issue.heads c state)
    have first : (s.channel c).queue.head? = some n := by rw [queue]; rfl
    obtain ⟨-, u, slot, bin, hu, status, -⟩ := h.units.issue.queued c n (List.mem_of_mem_head? first)
    have none_ := head n first u hu
    rw [status, statusOf_slot] at none_
    cases none_
  | startCycle s c => exact h.startCycle c
  | takeStarts s c state => exact h.takeStarts state
  | enable s c x old new state queue hand => exact h.enable old new state queue hand
  | disable s c x empty idle new state queue => exact h.disable empty idle new state queue
  | ageTickets s => exact h.ageTickets
  | mount s client pocket slot entry r r' hr out tool cls life status location machine free he =>
    exact h.mount hr out tool cls life status location machine free he
  | dismount s entry b r hb hr => exact h.dismount hb hr
  | protect s entry b mark hb => exact h.protect mark hb
  | charge s entry b r r' hb hr tool cls status location before after =>
    exact h.charge hb hr tool cls status location before after
  | wearOut s entry b r r' hb hr tool cls status location before after =>
    exact h.wearOut hb hr tool cls status location before after
  | wipe s => exact h.wipe
  | warm s cause => exact h.warm cause
  | cold s levels => exact h.cold levels

/-- Settles O28: every step is made of effects, every effect keeps the law, and a slot joins a chain at one place, where
the chain goes on rising. -/
theorem everyStepKeepsHallLaw : Obligations.EveryStepKeepsHallLaw :=
  ⟨fun _ _ law ht => (KeptByUnits.of_effect Effect.hallLaw).step law ht,
    fun records slot r chain hr others rises =>
      ⟨chainInsert_rises hr others rises, chainInsert_split records slot r chain⟩⟩

end Sys2Proof.Machine

/-! ## The warm start at reset -/

namespace Sys2Proof.Machine

theorem settle_gauging {r : Record} {resume : Resume} (h : r.status = .gauging resume) :
    r.settle = { r with status := resume.status } := by
  unfold Record.settle
  rw [h]

theorem settle_promised {r : Record} (h : r.status = .promised) : r.settle =
    if r.opened then { r with status := .held .audit, opened := false } else { r with status := .ready, opened := false } := by
  unfold Record.settle
  rw [h]

theorem settle_other {r : Record} (gauging : r.status.isGauging = false) (promised : r.status ≠ .promised) :
    r.settle = r := by
  rcases settle_cases r with ⟨e, -, -⟩ | ⟨g | p, -, -⟩
  · exact e
  · rw [gauging] at g
    cases g
  · exact absurd p promised

/-- A channel whose filter has been set to the level of its line (R202). -/
theorem setFilters_channel (levels : Vector DrawerLevel 16) (s : Hall) (c : Fin 16) :
    (setFilters levels s).channel c = { s.channel c with filter := levels.get c } := by
  simp [setFilters, Hall.channel, Vector.get_eq_getElem]

theorem levelsOf_get (inputs : BitVec 16) (c : Fin 16) : (levelsOf inputs).get c = levelOf (inputs.getLsbD c.val) := by
  simp [levelsOf, Vector.get_eq_getElem]

theorem anyForced_iff {channels : Vector Channel 16} : anyForced channels = true ↔
    ∃ c : Fin 16, (channels.get c).state = .forced := by
  unfold anyForced
  rw [List.any_eq_true]
  constructor
  · rintro ⟨x, hx, forced⟩
    obtain ⟨i, hi, rfl⟩ := Vector.mem_iff_getElem.mp (Vector.mem_toList_iff.mp hx)
    exact ⟨⟨i, hi⟩, by simpa [Vector.get_eq_getElem] using forced⟩
  · rintro ⟨c, forced⟩
    exact ⟨channels.get c, Vector.mem_toList_iff.mpr (Vector.getElem_mem c.isLt), by simpa using forced⟩

/-- The flags that a warm start leaves, bit by bit (R195, R125). -/
theorem warmFlags_bit (flags : BitVec 7) (channels : Vector Channel 16) (i : Nat) :
    (warmFlags flags channels).getLsbD i =
      ((flags.getLsbD i && decide (i = 6)) || (anyForced channels && decide (i = 1))) := by
  have mask (n : Nat) (hn : n < 7) : (BitVec.twoPow 7 n).getLsbD i = decide (i = n) := by
    rw [BitVec.getLsbD_twoPow]
    by_cases e : i = n <;> simp [e, hn, Ne.symm]
  unfold warmFlags
  rw [BitVec.getLsbD_or, BitVec.getLsbD_and, Flag.mask, Flag.index, mask 6 (by decide)]
  cases anyForced channels with
  | true => rw [if_pos rfl, Flag.mask, Flag.index, mask 1 (by decide), Bool.true_and]
  | false => simp

/-- No channel that starts warm is RELEASED. -/
theorem warmStart_releaseLines (s : Hall) (cause : StartCause) :
    releaseLines (warmStart cause s) = Vector.replicate 16 false := by
  refine Vector.ext fun i hi => ?_
  have line := mapBank_get (fun c : Channel => decide (c.state = .released)) (warmStart cause s).channels ⟨i, hi⟩
  have settled := (settle_channel (s.channel ⟨i, hi⟩)).2.1
  rw [← warmStart_channel s cause] at settled
  have closed : ((warmStart cause s).channels.get ⟨i, hi⟩).state ≠ .released := fun e => by
    rw [Hall.channel, e] at settled
    cases settled
  rw [decide_eq_false closed] at line
  simpa [releaseLines, Vector.get_eq_getElem] using line

/-- The units after the release of reset with RETAIN high. -/
def retained (inputs : BitVec 16) (s : Hall) : Hall := warmStart .retain (setFilters (levelsOf inputs) s)

/-- A channel that starts warm takes its level from the line (R108, R125). -/
theorem settle_filtered (x : Channel) (high : Bool) : ({ x with filter := levelOf high } : Channel).settle = { x with
    state := if x.enabled then (if high then .idle else .forced) else .off
    level := if high then .shut else .open
    filter := if high then .shut else .open
    timer := none, queue := [] } := by
  obtain ⟨state, level, filter, enabled, openWindow, takeWindow, timer, queue⟩ := x
  cases high <;> cases enabled <;> rfl

theorem retained_channel (inputs : BitVec 16) (s : Hall) (c : Fin 16) :
    (retained inputs s).channel c = { s.channel c with
      state := if (s.channel c).enabled then (if inputs.getLsbD c.val then .idle else .forced) else .off
      level := if inputs.getLsbD c.val then .shut else .open
      filter := if inputs.getLsbD c.val then .shut else .open
      timer := none, queue := [] } := by
  rw [retained, warmStart_channel, setFilters_channel, levelsOf_get, settle_filtered]

theorem retained_mode (inputs : BitVec 16) (s : Hall) : (retained inputs s).mode = s.mode.settle := by
  rw [retained, warmStart, setFilters]

theorem settle_mode (m : IssueMode) : m.settle = if m = .draining then .offline else m := by cases m <;> rfl

theorem retained_station (inputs : BitVec 16) (s : Hall) (n : Fin 4) :
    (retained inputs s).station n = (s.station n).settle := warmStart_station ..

theorem retained_enables (inputs : BitVec 16) (s : Hall) : (retained inputs s).enables = s.enables := by
  rw [retained, warmStart, setFilters]

theorem retained_records (inputs : BitVec 16) (s : Hall) (slot : Nat) :
    (retained inputs s).records.get slot = (s.records.get slot).map Record.settle := warmStart_records ..

theorem retained_classes (inputs : BitVec 16) (s : Hall) (cls : Nat) :
    (retained inputs s).classes.get cls = (s.classes.get cls).map (recount (retained inputs s).records cls) :=
  warmStart_classes ..

/-- A channel starts FORCED exactly when it is enabled and its drawer reads open (R125). -/
theorem retained_forced {inputs : BitVec 16} {s : Hall} : anyForced (retained inputs s).channels = true ↔
    ∃ c : Fin 16, (s.channel c).enabled = true ∧ inputs.getLsbD c.val = false := by
  rw [anyForced_iff]
  refine exists_congr fun c => ?_
  change ((retained inputs s).channel c).state = .forced ↔ _
  rw [retained_channel]
  cases inputs.getLsbD c.val <;> cases (s.channel c).enabled <;> simp

theorem retained_flags (inputs : BitVec 16) (s : Hall) (i : Nat) : (retained inputs s).flags.getLsbD i =
    ((s.flags.getLsbD i && decide (i = 6)) || (anyForced (retained inputs s).channels && decide (i = 1))) :=
  warmFlags_bit ..

/-- The release of reset with RETAIN high: the port is as after any start, and the lines follow the units (R202). -/
theorem exec_reset_retained (inputs : BitVec 16) (s : State) : exec (.reset true inputs) s = .next { s with
    hall := retained inputs s.hall
    port := { s.port.afterStart with
      pins := ⟨true, false, attnLine (retained inputs s.hall), releaseLines (retained inputs s.hall)⟩ } } := rfl

/-- Settles O19: the retained tables are read entry by entry, the chains and the index are those rebuilt from the settled
records, and the lines show no open drawer. -/
theorem warmStartKeepsRetainedMemory : Obligations.WarmStartKeepsRetainedMemory := by
  intro inputs s
  have entry (slot : Nat) := retained_records inputs s.hall slot
  have flag (i : Nat) := retained_flags inputs s.hall i
  refine ⟨_, exec_reset_retained inputs s, fun slot hs => ?_, fun slot r hr => ?_, fun tables index => ?_, rfl, rfl, rfl,
    retained_enables inputs s.hall, rfl, rfl, rfl, ?_,
    fun n => ?_, fun c => ?_, fun cls hc => ?_, fun cls c hc => ?_, rfl, ?_, ?_, fun i low other => ?_, rfl, rfl, rfl,
    rfl, rfl, rfl, rfl, rfl, ?_⟩
  · exact (entry slot).trans (by rw [hs]; rfl)
  · have settled : (retained inputs s.hall).records.get slot = some r.settle := (entry slot).trans (by rw [hr]; rfl)
    refine ⟨fun h => settled.trans ?_, fun h => settled.trans ?_, fun reason h => settled.trans ?_,
      fun h opened => settled.trans ?_, fun h opened => settled.trans ?_, fun gauging promised => settled.trans ?_⟩
    · rw [settle_gauging h]; rfl
    · rw [settle_gauging h]; rfl
    · rw [settle_gauging h]; rfl
    · rw [settle_promised h, opened]; rfl
    · rw [settle_promised h, opened]; rfl
    · rw [settle_other gauging promised]
  · have filtered := (setFilters_effect (levelsOf inputs) s.hall).keepsTables
    have law := filtered.index tables index
    have chains := warmStart_chains .retain (filtered.tables tables) law
    refine ⟨fun cls slot => (chains.member cls slot).trans ?_, fun cls => (chains.sorted cls).imp_of_mem ?_,
      warmStart_index (filtered.tables tables) law .retain⟩
    · constructor
      · rintro ⟨life, tool, key⟩
        obtain ⟨r, hr, status, cls, -⟩ := readyAt_eq_some.mp key
        exact ⟨r, hr, status, cls⟩
      · rintro ⟨r, hr, status, cls⟩
        exact ⟨_, _, readyAt_eq_some.mpr ⟨r, hr, status, cls, rfl, rfl⟩⟩
    · intro a b ha hb rises ra rb hra hrb
      obtain ⟨la, ta, ka⟩ := (chains.member cls a).mp ha
      obtain ⟨lb, tb, kb⟩ := (chains.member cls b).mp hb
      have before := rises _ _ _ _ _ _ ka kb
      obtain ⟨_, ea, -, -, rfl, rfl⟩ := readyAt_eq_some.mp ka
      obtain ⟨_, eb, -, -, rfl, rfl⟩ := readyAt_eq_some.mp kb
      obtain rfl := Option.some.inj (hra.symm.trans ea)
      obtain rfl := Option.some.inj (hrb.symm.trans eb)
      exact before
  · exact (retained_mode inputs s.hall).trans (settle_mode _)
  · exact retained_station inputs s.hall n
  · exact retained_channel inputs s.hall c
  · exact (retained_classes inputs s.hall cls).trans (by rw [hc]; rfl)
  · refine ⟨recount (retained inputs s.hall).records cls c,
      (retained_classes inputs s.hall cls).trans (by rw [hc]; rfl), rfl, rfl, rfl, rfl, ?_, rfl⟩
    change _ = (retained inputs s.hall).usableIn cls
    rw [Hall.usableIn, show Record.countsIn cls = fun r => r.cls == cls && r.usable from funext (countsIn_eq cls)]
    rfl
  · exact (flag 6).trans (by simp)
  · refine (Bool.eq_iff_iff.mp (flag 1)).trans ?_
    simpa using retained_forced
  · exact (flag i).trans (by simp [show i ≠ 6 by omega, other])
  · change (⟨true, false, attnLine (retained inputs s.hall), releaseLines (retained inputs s.hall)⟩ : Pins) = _
    rw [retained, warmStart_releaseLines]
    rfl

end Sys2Proof.Machine

/-! ## The class table's requests, one by one -/

namespace Sys2Proof.Machine

/-! ### Looking up a class -/

theorem lookUpClass_range {s : Hall} {cls : Word} (h : ¬(1 ≤ cls.toNat ∧ cls.toNat ≤ 255)) :
    s.lookUpClass cls = .error .range := by
  unfold Hall.lookUpClass
  rw [if_neg h]

theorem lookUpClass_undefined {s : Hall} {cls : Word} (low : 1 ≤ cls.toNat) (high : cls.toNat ≤ 255)
    (h : s.classes.get cls.toNat = none) : s.lookUpClass cls = .error .noClass := by
  simp [Hall.lookUpClass, low, high, h]

theorem lookUpClass_defined {s : Hall} {cls : Word} {c : ClassEntry} (low : 1 ≤ cls.toNat) (high : cls.toNat ≤ 255)
    (h : s.classes.get cls.toNat = some c) : s.lookUpClass cls = .ok c := by
  simp [Hall.lookUpClass, low, high, h]

/-! ### Use of a class and the clamped policy -/

theorem inUse_iff {cls : Nat} {s : Hall} : inUse cls s = true ↔ 0 < recordsOf cls s ∨ 0 < ticketsOf cls s := by
  simp [inUse]

theorem inUse_eq_false_of_zero {cls : Nat} {s : Hall} (records : recordsOf cls s = 0) (tickets : ticketsOf cls s = 0) :
    inUse cls s = false := by
  simp [inUse, records, tickets]

/-- A range that starts at 0 clamps a natural number from above only. -/
theorem clampNat_zero (hi n : Nat) : clampNat 0 hi n = min n hi := by
  unfold clampNat
  rw [if_neg (Nat.not_lt_zero n)]
  split <;> omega

theorem policyOf_eq (fullLife : Nat) (w : PolicyWords) : policyOf fullLife w =
    { warnLevel := min w.warnLevel.toNat fullLife, regrindLoss := min w.regrindLoss.toNat 1000000
      maxRegrinds := min w.maxRegrinds.toNat 15, validity := min w.validity.toNat 65535
      outLimit := min w.outLimit.toNat 65535, waitLimit := min w.waitLimit.toNat 65535
      promotionAge := min w.promotionAge.toNat 65535, minStock := min w.minStock.toNat 4096
      autoReplace := w.autoReplace } := by
  simp only [policyOf, clampNat_zero]

/-! ### DEFINE-CLASS -/

section Define
variable {s : Hall} {cls : Word} {shape : ShapeWords} (w : PolicyWords)

/-- DEFINE-CLASS of an undefined class (R27 to R29). -/
theorem defineEntry_create (low : 1 ≤ cls.toNat) (high : cls.toNat ≤ 255) (range : (shapeOf shape).inRange = true)
    (free : s.classes.get cls.toNat = none) :
    defineEntry cls shape w s =
      let c := (ClassEntry.mk (shapeOf shape) (policyOf shape.fullLife.toNat w) 0 false ⟨0, false⟩ ⟨0, false⟩).reassess
      accept (classWords c ++ [1]) (s.putClass cls.toNat c) := by
  unfold defineEntry
  dsimp only
  rw [if_neg (not_not.mpr ⟨low, high⟩), if_neg (by simp [range]), free]
  rfl

/-- DEFINE-CLASS of a defined class whose shape may be written (R27 to R29). -/
theorem defineEntry_rewrite {old : ClassEntry} (low : 1 ≤ cls.toNat) (high : cls.toNat ≤ 255)
    (range : (shapeOf shape).inRange = true) (found : s.classes.get cls.toNat = some old)
    (allowed : inUse cls.toNat s = false ∨ shapeOf shape = old.shape) :
    defineEntry cls shape w s =
      let c := { old with shape := shapeOf shape, policy := policyOf shape.fullLife.toNat w }.reassess
      accept (classWords c ++ [0]) (s.putClass cls.toNat c) := by
  have mayWrite : ¬(inUse cls.toNat s && decide (shapeOf shape ≠ old.shape)) = true := by
    rcases allowed with idle | same
    · simp [idle]
    · simp [same]
  unfold defineEntry
  dsimp only
  rw [if_neg (not_not.mpr ⟨low, high⟩), if_neg (by simp [range]), found]
  exact if_neg mayWrite

/-- DEFINE-CLASS that would change the shape of a class in use (R27, check 3). -/
theorem defineEntry_inUse {old : ClassEntry} (low : 1 ≤ cls.toNat) (high : cls.toNat ≤ 255)
    (range : (shapeOf shape).inRange = true) (found : s.classes.get cls.toNat = some old)
    (used : inUse cls.toNat s = true) (other : shapeOf shape ≠ old.shape) :
    defineEntry cls shape w s = refuse .classInUse s := by
  unfold defineEntry
  dsimp only
  rw [if_neg (not_not.mpr ⟨low, high⟩), if_neg (by simp [range]), found]
  exact if_pos (by simp [used, other])

end Define

/-! ### DELETE-CLASS -/

theorem deleteEntry_idle {s : Hall} {cls : Word} {c : ClassEntry} (found : s.lookUpClass cls = .ok c)
    (idle : inUse cls.toNat s = false) :
    deleteEntry cls s = accept (counterWords c) { s with classes := s.classes.del cls.toNat } := by
  simp [deleteEntry, found, idle]

theorem deleteEntry_inUse {s : Hall} {cls : Word} {c : ClassEntry} (found : s.lookUpClass cls = .ok c)
    (used : inUse cls.toNat s = true) : deleteEntry cls s = refuse .classInUse s := by
  simp [deleteEntry, found, used]

/-- Settles O31: DEFINE-CLASS by whether the class is defined and may take the shape, DELETE-CLASS by whether it is in
use. -/
theorem defineAndDeleteClassWriteTheEntry : Obligations.DefineAndDeleteClassWriteTheEntry := by
  refine ⟨fun h cls shape w s ha low high range => ?_, fun h cls c s ha low high hc => ?_⟩
  · have answers {r : Reply} (hr : defineEntry cls shape w s.hall = r) (hn : r.notices = []) :
        exec (.defineClass h cls shape w) s = .next (s.answered .defineClass h r.code r.body r.notices r.hall) :=
      exec_reply ha ⟨rfl, rfl⟩ hr rfl rfl (by simp [hn]) (by decide)
    intro policy fresh
    have clamped : policyOf shape.fullLife.toNat w = policy := policyOf_eq _ w
    refine ⟨fun free => ?_, fun old found allowed => ?_, fun old found used other => ?_⟩
    · have created := defineEntry_create w low high range free
      rw [clamped] at created
      exact answers created rfl
    · have rewritten := defineEntry_rewrite w low high range found allowed
      rw [clamped] at rewritten
      exact answers rewritten rfl
    · exact answers (defineEntry_inUse w low high range found used other) rfl
  · have answers {r : Reply} (hr : deleteEntry cls s.hall = r) (hn : r.notices = []) :
        exec (.deleteClass h cls) s = .next (s.answered .deleteClass h r.code r.body r.notices r.hall) :=
      exec_reply ha ⟨rfl, rfl⟩ hr rfl rfl (by simp [hn]) (by decide)
    have found := lookUpClass_defined low high hc
    exact ⟨fun records tickets => answers (deleteEntry_idle found (inUse_eq_false_of_zero records tickets)) rfl,
      fun used => answers (deleteEntry_inUse found (inUse_iff.mpr used)) rfl⟩

/-! ### STATS -/

theorem classStats_error {s : Hall} {cls : Word} {code : Code} (clear : Bool) (h : s.lookUpClass cls = .error code) :
    classStats cls clear s = refuse code s := by
  simp [classStats, h]

theorem classStats_ok {s : Hall} {cls : Word} {c : ClassEntry} (clear : Bool) (h : s.lookUpClass cls = .ok c) :
    classStats cls clear s =
      accept (counterWords c) (if clear then s.putClass cls.toNat c.clearCounters else s) := by
  simp [classStats, h]

/-- Settles O32, by what looking up the class finds. -/
theorem statsReportsThenClears : Obligations.StatsReportsThenClears := by
  intro h cls clear s ha
  have answers {r : Reply} (hr : classStats cls clear s.hall = r) (hn : r.notices = []) :
      exec (.stats h cls clear) s = .next (s.answered .stats h r.code r.body r.notices r.hall) :=
    exec_reply ha ⟨rfl, rfl⟩ hr rfl rfl (by simp [hn]) (by decide)
  refine ⟨fun range => ?_, fun low high undefined => ?_, fun c low high hc => ?_⟩
  · exact answers (classStats_error clear (lookUpClass_range range)) rfl
  · exact answers (classStats_error clear (lookUpClass_undefined low high undefined)) rfl
  · exact answers (classStats_ok clear (lookUpClass_defined low high hc)) rfl

end Sys2Proof.Machine

/-! ## The presetting unit's requests, one by one -/

namespace Sys2Proof.Machine

/-! ### Numbers of stations, channels and programs -/

theorem stationOf_eq {w : Word} {n : Fin 4} (h : w.toNat = n.val) : stationOf w = some n := by
  unfold stationOf
  rw [dif_pos (h ▸ n.isLt)]
  exact congrArg some (Fin.ext h)

theorem channelOf_eq {w : Word} {c : Fin 16} (h : w.toNat = c.val) : channelOf w = some c := by
  unfold channelOf
  rw [dif_pos (h ▸ c.isLt)]
  exact congrArg some (Fin.ext h)

theorem programOf_eq {w : Word} (h : w.toNat ≤ 15) : programOf w = some ⟨w.toNat, Nat.lt_succ_of_le h⟩ :=
  dif_pos (Nat.lt_succ_of_le h)

/-! ### A request that sends no notice -/

/-- The completion of a request whose unit answers without a notice. -/
theorem exec_quiet {i : Instr} {k : Kind} {h : Header} {s : State} {hall : Hall} {code : Code} {body : List Word}
    (ha : s.admits h k) (hf : formOk s h i) (hr : handle i s.hall = ⟨hall, code, body, []⟩) (hk : i.kind = some k)
    (hh : i.header = some h) (hne : k ≠ .restart) : exec i s = .next (s.answered k h code body [] hall) :=
  exec_reply ha hf hr hk hh (Nat.zero_le _) hne

/-! ### The queries -/

/-- Settles O30: each query is answered from the tables as they stand. -/
theorem unitAndPortQueriesAnswer : Obligations.UnitAndPortQueriesAnswer := by
  refine ⟨⟨fun h station n s ha hn => ?_, fun h channel start c s ha hc hs => ?_, fun h start s ha hs => ?_,
    fun h machine pocket s ha hm p1 p2 own => ?_, fun h program p s ha hp stored => ?_⟩,
    fun h s ha => ?_, fun h client s ha hc own => ?_⟩
  · have image : queryStationImage station s.hall = accept (stationImage (s.hall.station n) (boundClient n s.hall)
        (((s.hall.station n).session.map fun x => sessionTool s.hall x.kind).getD 0)) s.hall := by
      simp [queryStationImage, stationOf_eq hn]
    exact exec_quiet ha ⟨rfl, rfl⟩ image rfl rfl (by decide)
  · intro x
    have listing : queryDrawer channel start s.hall = accept
        ([natWord x.state.code, natWord x.level.code, markWord x.enabled, natWord x.openWindow, natWord x.takeWindow,
          natWord (x.timer.getD 0), natWord x.queue.length] ++
          ((x.queue.drop start.toNat).take 12).flatMap (channelEntry s.hall)) s.hall := by
      unfold queryDrawer
      rw [channelOf_eq hc]
      exact if_neg (by omega)
    exact exec_quiet ha ⟨rfl, rfl⟩ listing rfl rfl (by decide)
  · have listing : queryHandoverList start s.hall = accept
        (natWord s.hall.handover.length ::
          ((s.hall.handover.drop start.toNat).take 12).flatMap (handoverEntry s.hall)) s.hall :=
      if_neg (by omega)
    exact exec_quiet ha ⟨rfl, rfl⟩ listing rfl rfl (by decide)
  · have allowed : ¬(decide ((s.hall.client h.client.toNat).role = .machine) &&
        machine.toNat != h.client.toNat) = true := by
      rcases own with other | same
      · simp [other]
      · simp [same]
    have listing : queryMagazine h.client.toNat machine pocket s.hall = accept
        (natWord (bindingsOf machine.toNat s.hall).length ::
          (((bindingsOf machine.toNat s.hall).filter fun e => decide (pocket.toNat ≤ e.2.pocket)).take 12).flatMap
            (pocketEntry s.hall)) s.hall := by
      unfold queryMagazine
      rw [if_neg (by simp [pocketInRange, p1, p2, hm]), if_neg allowed]
      rfl
    exact exec_quiet ha ⟨rfl, rfl⟩ listing rfl rfl (by decide)
  · have listing : queryStored program s.hall = accept
        ([natWord p.steps.length, natWord p.bytes.length, natWord p.greatest,
          packWord [packField 0 8 program.toNat, packField 8 8 p.bytes.length]] ++ packBytes p.bytes) s.hall := by
      simp [queryStored, programOf_eq hp, stored]
    exact exec_quiet ha ⟨rfl, rfl⟩ listing rfl rfl (by decide)
  · exact exec_quiet ha ⟨rfl, rfl⟩ rfl rfl rfl (by decide)
  · have allowed : ¬(decide ((s.hall.client h.client.toNat).role ≠ .toolroom) &&
        client.toNat != h.client.toNat) = true := by
      rcases own with toolroom | same
      · simp [toolroom]
      · simp [same]
    have entry : queryEntryOf h.client.toNat client s.hall = accept
        ((s.hall.client client.toNat).words ++
          [natWord (clientBindings client.toNat s.hall), natWord (clientTickets client.toNat s.hall)] ++
          (match (s.hall.client client.toNat).station with
            | some n => [markWord (s.hall.station n).state.isGauging]
            | none => [])) s.hall := by
      unfold queryEntryOf
      exact (if_neg (by omega)).trans (if_neg allowed)
    exact exec_quiet ha ⟨rfl, rfl⟩ entry rfl rfl (by decide)

/-! ### The gauge window and the sweep period -/

/-- Settles O34: each value stored is the clamp of the value given. -/
theorem windowAndPeriodAreClamped : Obligations.WindowAndPeriodAreClamped := by
  refine ⟨fun h station window n s ha hn => ?_, fun h period s ha => ⟨?_, ?_⟩⟩
  · have stored : configureGaugeWindow station window s.hall =
        accept [natWord (clampNat 10 2550 window.toNat)]
          (s.hall.setStation n { s.hall.station n with window := clampNat 10 2550 window.toNat }) := by
      simp [configureGaugeWindow, stationOf_eq hn]
    exact exec_quiet ha ⟨rfl, rfl⟩ stored rfl rfl (by decide)
  · exact exec_quiet ha ⟨rfl, rfl⟩ rfl rfl rfl (by decide)
  · exact exec_quiet ha ⟨rfl, rfl⟩ rfl rfl rfl (by decide)

/-! ### Activation of a calibration set -/

/-- A station on which a calibration set has been activated (R52). -/
def Station.withSet (st : Station) (g : GeometryHalf) (c : CorrectionHalf) : Station :=
  { st with
    active := some (g, c), stagedGeometry := none, stagedCorrection := none, pending := false
    generation := nextGeneration st.generation, state := .ready }

/-- Activation consumes both halves, and a station that is not GAUGING is then READY (R52). -/
theorem activate_eq_withSet {st : Station} {g : GeometryHalf} {c : CorrectionHalf} (hg : st.stagedGeometry = some g)
    (hc : st.stagedCorrection = some c) (idle : st.state.isGauging = false) : st.activate = st.withSet g c := by
  unfold Station.activate
  rw [hg, hc]
  cases state : st.state with
  | uncal | ready | drift => rfl
  | gauging entry => simp [state, StationState.isGauging] at idle

/-! ### Calibration writes (R51) -/

/-- The answer to a calibration write, from the station with the half that it stages. -/
def calibrationReply (n : Fin 4) (st : Station) (s : Hall) : Reply :=
  accept (calibrationBody st.afterWrite st.willActivate) (s.setStation n st.afterWrite)

theorem writeGeometry_eq {client : Nat} {station : Word} {n : Fin 4} {v : GeometryWords} {s : Hall}
    (hn : station.toNat = n.val) (may : mayCalibrate (s.client client) n = true)
    (range : (geometryHalfOf v).inRange = true) :
    writeGeometry client station v s =
      calibrationReply n { s.station n with stagedGeometry := some (geometryHalfOf v) } s := by
  simp [writeGeometry, stationOf_eq hn, may, range, calibrationReply]

theorem writeCorrection_eq {client : Nat} {station : Word} {n : Fin 4} {v : CorrectionWords} {s : Hall}
    (hn : station.toNat = n.val) (may : mayCalibrate (s.client client) n = true)
    (range : (correctionHalfOf v).inRange = true) :
    writeCorrection client station v s =
      calibrationReply n { s.station n with stagedCorrection := some (correctionHalfOf v) } s := by
  simp [writeCorrection, stationOf_eq hn, may, range, calibrationReply]

section Write

variable (n : Fin 4) {st : Station} (s : Hall)

/-- A half without the other waits. -/
theorem calibrationReply_alone (alone : st.stagedGeometry = none ∨ st.stagedCorrection = none) :
    calibrationReply n st s = accept [markWord st.stagedGeometry.isSome, markWord st.stagedCorrection.isSome,
      markWord st.pending, natWord st.generation, 0] (s.setStation n st) := by
  have incomplete : (st.stagedGeometry.isSome && st.stagedCorrection.isSome) = false := by
    rcases alone with missing | missing <;> simp [missing]
  have waits : st.afterWrite = st := by simp [Station.afterWrite, incomplete]
  have none_activated : st.willActivate = false := by simp [Station.willActivate, incomplete]
  rw [calibrationReply, waits, none_activated]
  rfl

variable {g : GeometryHalf} {c : CorrectionHalf}

/-- Both halves are activated at once while the station is not GAUGING. -/
theorem calibrationReply_activates (hg : st.stagedGeometry = some g) (hc : st.stagedCorrection = some c)
    (idle : st.state.isGauging = false) :
    calibrationReply n st s =
      accept [0, 0, 0, natWord (nextGeneration st.generation), 1] (s.setStation n (st.withSet g c)) := by
  have activates : st.afterWrite = st.activate := by
    unfold Station.afterWrite
    rw [hg, hc]
    cases state : st.state with
    | uncal | ready | drift => rfl
    | gauging entry => simp [state, StationState.isGauging] at idle
  have activated : st.willActivate = true := by simp [Station.willActivate, hg, hc, idle]
  rw [calibrationReply, activates, activated, activate_eq_withSet hg hc idle]
  rfl

/-- Both halves wait for the session's end while the station is GAUGING. -/
theorem calibrationReply_pends (hg : st.stagedGeometry = some g) (hc : st.stagedCorrection = some c)
    (gauging : st.state.isGauging = true) :
    calibrationReply n st s =
      accept [1, 1, 1, natWord st.generation, 0] (s.setStation n { st with pending := true }) := by
  have pends : st.afterWrite = { st with pending := true } := by
    unfold Station.afterWrite
    rw [hg, hc]
    cases state : st.state with
    | uncal | ready | drift => simp [state, StationState.isGauging] at gauging
    | gauging entry => rfl
  have none_activated : st.willActivate = false := by simp [Station.willActivate, gauging]
  rw [calibrationReply, pends, none_activated]
  simp [calibrationBody, hg, hc, markWord]

end Write

/-- Settles O33, for either half by whether the other is staged and whether the station is GAUGING. -/
theorem calibrationWriteStagesOrActivates : Obligations.CalibrationWriteStagesOrActivates := by
  intro h station n s hn may st gen active
  refine ⟨fun v ha range => ?_, fun v ha range => ?_⟩
  · have answers {r : Reply} (hr : calibrationReply n { st with stagedGeometry := some (geometryHalfOf v) } s.hall = r)
        (quiet : r.notices = []) :
        exec (.calGeometry h station v) s = .next (s.answered .calGeometry h r.code r.body r.notices r.hall) :=
      exec_reply ha ⟨rfl, rfl⟩ ((writeGeometry_eq hn may range).trans hr) rfl rfl (by simp [quiet]) (by decide)
    refine ⟨fun alone => ?_, fun c staged idle => ?_, fun c staged gauging => ?_⟩
    · have unstaged : markWord st.stagedCorrection.isSome = 0 := by rw [alone]; rfl
      have waits := answers (calibrationReply_alone n s.hall (.inr alone)) rfl
      simp only [unstaged] at waits
      exact waits
    · exact answers (calibrationReply_activates n s.hall rfl staged idle) rfl
    · exact answers (calibrationReply_pends n s.hall rfl staged gauging) rfl
  · have answers {r : Reply}
        (hr : calibrationReply n { st with stagedCorrection := some (correctionHalfOf v) } s.hall = r)
        (quiet : r.notices = []) :
        exec (.calCorrection h station v) s = .next (s.answered .calCorrection h r.code r.body r.notices r.hall) :=
      exec_reply ha ⟨rfl, rfl⟩ ((writeCorrection_eq hn may range).trans hr) rfl rfl (by simp [quiet]) (by decide)
    refine ⟨fun alone => ?_, fun g staged idle => ?_, fun g staged gauging => ?_⟩
    · have unstaged : markWord st.stagedGeometry.isSome = 0 := by rw [alone]; rfl
      have waits := answers (calibrationReply_alone n s.hall (.inl alone)) rfl
      simp only [unstaged] at waits
      exact waits
    · exact answers (calibrationReply_activates n s.hall staged rfl idle) rfl
    · exact answers (calibrationReply_pends n s.hall staged rfl gauging) rfl

end Sys2Proof.Machine

/-! ## Holding records one after another (R55, R117) -/

namespace Sys2Proof.Machine

/-! ### One visit -/

/-- A visit of `holdEach` holds the record: it is READY and satisfies the condition. -/
def visitHolds (p : Record → Bool) (r : Record) : Bool := decide (r.status = .ready) && p r

/-- A record after its visit. -/
def heldIf (p : Record → Bool) (reason : HoldReason) (r : Record) : Record :=
  if visitHolds p r then { r with status := .held reason } else r

theorem visitHolds_heldIf (p : Record → Bool) (reason : HoldReason) (r : Record) :
    visitHolds p (heldIf p reason r) = false := by
  unfold heldIf
  cases hit : visitHolds p r
  · exact hit
  · rfl

theorem heldIf_of_not_visitHolds {p : Record → Bool} {reason : HoldReason} {r : Record} (h : visitHolds p r = false) :
    heldIf p reason r = r := by
  simp [heldIf, h]

theorem heldIf_of_visitHolds {p : Record → Bool} {reason : HoldReason} {r : Record} (h : visitHolds p r = true) :
    heldIf p reason r = { r with status := .held reason } := by
  simp [heldIf, h]

/-- What one visit can do: pass the slot over, or hold its record and go on from there. -/
theorem holdEach_cons (p : Record → Bool) (reason : HoldReason) (slot : Nat) (rest : List Nat) (s : Hall) :
    ((∀ r, s.records.get slot = some r → visitHolds p r = false) ∧
        holdEach p reason (slot :: rest) s = holdEach p reason rest s) ∨
      ∃ r, s.records.get slot = some r ∧ visitHolds p r = true ∧
        holdEach p reason (slot :: rest) s =
          ((holdEach p reason rest (holdReady slot r reason s).1).1,
            (holdReady slot r reason s).2 ++ (holdEach p reason rest (holdReady slot r reason s).1).2.1,
            (holdEach p reason rest (holdReady slot r reason s).1).2.2 + 1) := by
  cases found : s.records.get slot with
  | none =>
    refine .inl ⟨fun _ h => (Option.some_ne_none _ h.symm).elim, ?_⟩
    rw [holdEach, found]
  | some r =>
    cases hit : visitHolds p r with
    | false =>
      refine .inl ⟨fun _ h => Option.some.inj h ▸ hit, ?_⟩
      unfold visitHolds at hit
      rw [holdEach, found]
      simp only [hit, Bool.false_eq_true, if_false]
    | true =>
      refine .inr ⟨r, rfl, hit, ?_⟩
      unfold visitHolds at hit
      rw [holdEach, found]
      simp only [hit, if_true]

/-! ### All the visits -/

theorem holdReady_records (slot : Nat) (r : Record) (reason : HoldReason) (s : Hall) :
    (holdReady slot r reason s).1.records = s.records.put slot { r with status := .held reason } :=
  usableFall_records _ _

/-- The visits hold the matching records of the slots visited and leave every other record as it is. -/
theorem holdEach_get (p : Record → Bool) (reason : HoldReason) (slots : List Nat) (s : Hall) (slot : Nat) :
    (holdEach p reason slots s).1.records.get slot =
      if slot ∈ slots then (s.records.get slot).map (heldIf p reason) else s.records.get slot := by
  induction slots generalizing s with
  | nil => rfl
  | cons x rest ih =>
    rcases holdEach_cons p reason x rest s with ⟨miss, e⟩ | ⟨r, found, hit, e⟩
    · rw [e, ih]
      by_cases here : slot = x
      · subst here
        have kept : (s.records.get slot).map (heldIf p reason) = s.records.get slot := by
          cases found : s.records.get slot with
          | none => rfl
          | some r => exact congrArg some (heldIf_of_not_visitHolds (miss r found))
        simp [kept]
      · simp [here]
    · have held := heldIf_of_visitHolds (reason := reason) hit
      rw [e, ih, holdReady_records, get_put, ← held]
      by_cases here : x = slot
      · subst here
        have once : heldIf p reason (heldIf p reason r) = heldIf p reason r :=
          heldIf_of_not_visitHolds (visitHolds_heldIf p reason r)
        simp [found, once]
      · simp [here, Ne.symm here]

/-- Each record held is one match fewer, and the table stays canonical. -/
theorem holdEach_count (p : Record → Bool) (reason : HoldReason) (slots : List Nat) {s : Hall} (wf : s.records.wf) :
    (holdEach p reason slots s).1.records.wf ∧
      (holdEach p reason slots s).2.2 + (holdEach p reason slots s).1.records.count (visitHolds p) =
        s.records.count (visitHolds p) := by
  induction slots generalizing s with
  | nil => exact ⟨wf, Nat.zero_add _⟩
  | cons x rest ih =>
    rcases holdEach_cons p reason x rest s with ⟨-, e⟩ | ⟨r, found, hit, e⟩
    · rw [e]
      exact ih wf
    · have written := holdReady_records x r reason s
      obtain ⟨canonical, fewer⟩ := ih (s := (holdReady x r reason s).1) (by rw [written]; exact wf_put _ _ _ wf)
      have replaced := count_put (p := visitHolds p) (v := { r with status := .held reason }) wf found
      have held : visitHolds p { r with status := .held reason } = false := rfl
      simp only [hit, held, ← written, Bool.false_eq_true, if_false, if_true] at replaced
      rw [e]
      exact ⟨canonical, by dsimp only; omega⟩

/-- A fall of the usable count sends LOW-STOCK or nothing. -/
theorem usableFall_notices (cls : Nat) (s : Hall) : ∀ x ∈ (usableFall cls s).2, x.kind = .lowStock := by
  cases defined : s.classes.get cls with
  | none => simp [usableFall, defined]
  | some c =>
    rw [usableFall_eq defined]
    unfold fallNotices
    split <;> simp

theorem holdEach_notices (p : Record → Bool) (reason : HoldReason) (slots : List Nat) (s : Hall) :
    ∀ x ∈ (holdEach p reason slots s).2.1, x.kind = .lowStock := by
  induction slots generalizing s with
  | nil => exact nofun
  | cons x rest ih =>
    rcases holdEach_cons p reason x rest s with ⟨-, e⟩ | ⟨r, -, -, e⟩
    · rw [e]
      exact ih s
    · rw [e]
      intro y hy
      exact (List.mem_append.mp hy).elim (usableFall_notices _ _ y) (ih _ y)

theorem holdEach_frame (p : Record → Bool) (reason : HoldReason) (slots : List Nat) (s : Hall) :
    StoreFrame s (holdEach p reason slots s).1 := by
  induction slots generalizing s with
  | nil => exact .refl s
  | cons x rest ih =>
    rcases holdEach_cons p reason x rest s with ⟨-, e⟩ | ⟨r, -, -, e⟩
    · rw [e]
      exact ih s
    · rw [e]
      exact (StoreFrame.holdReady x r reason s).trans (ih _)

section EveryRecord

variable (p : Record → Bool) (reason : HoldReason) (s : Hall)

/-- A visit of every listed slot holds every match. -/
theorem holdEach_keys_get (slot : Nat) :
    (holdEach p reason s.records.keys s).1.records.get slot = (s.records.get slot).map (heldIf p reason) := by
  rw [holdEach_get]
  split
  · rfl
  · rename_i unlisted
    cases found : s.records.get slot with
    | none => rfl
    | some r => exact absurd (List.mem_map_of_mem (mem_of_get _ _ _ found)) unlisted

/-- It holds as many records as there are matches. -/
theorem holdEach_keys_count (wf : s.records.wf) :
    (holdEach p reason s.records.keys s).2.2 = s.records.count (visitHolds p) := by
  obtain ⟨canonical, total⟩ := holdEach_count p reason s.records.keys wf
  have noneLeft : (holdEach p reason s.records.keys s).1.records.count (visitHolds p) = 0 := by
    refine count_eq_zero.mpr fun e he => ?_
    have listed := get_of_mem canonical he
    rw [holdEach_keys_get] at listed
    obtain ⟨r, -, held⟩ := Option.map_eq_some_iff.mp listed
    rw [← held]
    exact visitHolds_heldIf p reason r
  omega

end EveryRecord

/-! ### Notices that may find no place -/

/-- The notices that find a place stand at the tail of the outbound queue in their order (R190). -/
theorem placeNotices_outbound (notices : List Notice) (s : State) :
    ∃ placed : List Notice, placed.Sublist notices ∧
      (placeNotices notices s).port.outbound = s.port.outbound ++ placed.map .notice := by
  induction notices generalizing s with
  | nil => exact ⟨[], .slnil, by simp⟩
  | cons n rest ih =>
    obtain ⟨placed, sub, e⟩ := ih (placeNotice s n)
    rw [placeNotices_cons, e]
    by_cases room : s.port.outbound.length + s.port.kept < 32
    · exact ⟨n :: placed, sub.cons_cons n, by simp [placeNotice_room s n room]⟩
    · exact ⟨placed, sub.cons n, by simp [placeNotice_full s n room]⟩

/-- The response takes its place and the notices that find one follow it; the units change by OVERRUN at most. -/
theorem placeAnswer_placed (a : Answer) (s : State) :
    ∃ placed : List Notice, placed.Sublist a.notices ∧
      (placeAnswer a s).port.outbound =
        s.port.outbound ++ .response a.kindCode a.client a.tag a.code a.body :: placed.map .notice ∧
      ((placeAnswer a s).hall = s.hall ∨ (placeAnswer a s).hall = setFlag .overrun s.hall) := by
  unfold placeAnswer
  generalize responded : ({ s with port := { s.port with
    outbound := s.port.outbound ++ [.response a.kindCode a.client a.tag a.code a.body]
    start := startAfter a.kindCode a.code s.port.start } } : State) = t
  obtain ⟨placed, sub, outbound⟩ := placeNotices_outbound a.notices t
  obtain ⟨-, -, -, -, -, -, hall⟩ := placeNotices_frame a.notices t
  rw [outbound]
  subst responded
  exact ⟨placed, sub, by simp, hall⟩

/-- The completion of a request whose notices may find no place. -/
theorem exec_placed {i : Instr} {k : Kind} {h : Header} {s : State} {r : Reply} (ha : s.admits h k)
    (hf : formOk s h i) (hr : handle i s.hall = r) (hk : i.kind = some k) (hh : i.header = some h) :
    ∃ (t : State) (placed : List Notice), exec i s = .next t ∧ placed.Sublist r.notices ∧
      t.port.outbound = s.port.outbound ++ .response k.code h.client h.tag r.code r.body :: placed.map .notice ∧
      (t.hall = r.hall ∨ t.hall = setFlag .overrun r.hall) := by
  subst hr
  obtain ⟨placed, stands⟩ := placeAnswer_placed ((handle i s.hall).answer k.code h.client h.tag)
    { s with hall := (handle i s.hall).hall }
  exact ⟨_, placed, exec_admitted i k h s hk hh hf ha, stands⟩

/-! ### HOLD-BY-CALIBRATION -/

/-- Settles O35: every listed slot is visited, and the visits hold the matches. -/
theorem holdByCalibrationHoldsMatchingReadyTools : Obligations.HoldByCalibrationHoldsMatchingReadyTools := by
  intro h station generation n s ha wf hn low high hit
  let p := measuredAt n generation.toNat
  let visited := holdEach p .suspect s.hall.records.keys s.hall
  have answered : holdCalibration station generation s.hall =
      ⟨visited.1, .ok, [station, generation, natWord visited.2.2], visited.2.1⟩ := by
    unfold holdCalibration
    rw [stationOf_eq hn]
    exact if_neg (not_not.mpr ⟨low, high⟩)
  obtain ⟨t, placed, run, sub, outbound, hall⟩ :=
    exec_placed (i := .holdByCalibration h station generation) ha ⟨rfl, rfl⟩ answered rfl rfl
  have frame := holdEach_frame p .suspect s.hall.records.keys s.hall
  have count : visited.2.2 = s.hall.records.count hit := holdEach_keys_count p .suspect s.hall wf
  rw [count] at outbound
  have lowStock : ∀ x ∈ placed, x.kind = .lowStock := fun x hx =>
    holdEach_notices p .suspect s.hall.records.keys s.hall x (sub.subset hx)
  refine ⟨t, placed, run, outbound, lowStock, ?_⟩
  have held : ∀ slot, visited.1.records.get slot = (s.hall.records.get slot).map (heldIf p .suspect) :=
    holdEach_keys_get p .suspect s.hall
  rcases hall with hall | hall <;> rw [hall] <;>
    exact ⟨held, frame.stations, frame.tickets, frame.bindings, frame.channels⟩

end Sys2Proof.Machine

/-! ## Gauging sessions, request by request -/

namespace Sys2Proof.Machine

/-! ### GAUGE-BEGIN by the station's state (R44) -/

theorem lookUpTool_error {s : Hall} {tool : Word} {code : Code} (h : s.lookUpTool tool = .error code) :
    code = .range ∨ code = .unknownTool := by
  unfold Hall.lookUpTool at h
  split at h
  · split at h
    · cases h
    · cases h
      exact .inr rfl
  · cases h
    exact .inl rfl

theorem resumeOf_error {status : RecordStatus} {code : Code} (h : resumeOf status = .error code) :
    code = .state ∨ code = .busy := by
  unfold resumeOf at h
  split at h <;> cases h <;> simp

/-- The checks on the tool never answer for the station (R62, checks 2 to 5). -/
theorem beginTool_code (n : Fin 4) (entry : EntryState) (tool : Word) (s : Hall) :
    (beginTool n entry tool s).code ≠ .stationNotReady := by
  unfold beginTool
  split
  · rename_i code refused
    rcases lookUpTool_error refused with rfl | rfl <;> exact nofun
  · split
    · rename_i code refused
      rcases resumeOf_error refused with rfl | rfl <;> exact nofun
    · exact nofun

/-- Settles O36, by the station's state. -/
theorem stationStateDecidesGaugeBegin : Obligations.StationStateDecidesGaugeBegin := by
  intro h tool n s ha own
  have sender : senderStation h.client.toNat s.hall = some n := own
  have refuses {code : Code} (hr : beginSession h.client.toNat tool s.hall = refuse code s.hall) :
      exec (.gaugeBegin h tool) s = .next (s.answered .gaugeBegin h code [] [] s.hall) :=
    exec_quiet ha ⟨rfl, rfl⟩ hr rfl rfl (by decide)
  refine ⟨fun uncal => refuses ?_, fun drift isTool => refuses ?_, fun ⟨e, gauging⟩ => refuses ?_,
    fun ready => ⟨?_, ?_⟩, fun drift => ?_⟩
  · simp [beginSession, sender, uncal]
  · unfold beginSession
    rw [sender]
    dsimp only
    rw [drift]
    exact if_neg isTool
  · simp [beginSession, sender, gauging]
  · have opens : beginSession h.client.toNat tool s.hall =
        if tool = 0 then beginMaster n .ready s.hall else beginTool n .ready tool s.hall := by
      simp [beginSession, sender, ready]
    change (beginSession h.client.toNat tool s.hall).code ≠ .stationNotReady
    rw [opens]
    split
    · exact nofun
    · exact beginTool_code n .ready tool s.hall
  · simp [handle, beginSession, sender, ready, beginMaster, accept]
  · simp [handle, beginSession, sender, drift, beginMaster, accept]

/-! ### A session's end at the station -/

theorem EntryState.state_isGauging (e : EntryState) : e.state.isGauging = false := by cases e <;> rfl

theorem close_of_not_pending {st : Station} (state : StationState) (h : st.pending = false) :
    st.close state = { st with state := state, session := none } := by
  simp [Station.close, h]

/-- Settles O40, by the pending mark. -/
theorem sessionEndActivatesPendingSet : Obligations.SessionEndActivatesPendingSet := by
  refine fun st e => ⟨close_of_not_pending e.state, fun g c pending hg hc => ?_⟩
  have closes : st.close e.state = Station.activate { st with state := e.state, session := none } := if_pos pending
  exact closes.trans (activate_eq_withSet hg hc e.state_isGauging)

/-! ### A session that ends without a result (R67) -/

section Abort

variable {n : Fin 4} {u : Session} {e : EntryState} {s : Hall}

/-- A master session's end touches the station alone. -/
theorem abortSession_master (hs : (s.station n).state = .gauging e) (hk : u.kind = .master) :
    abortSession n u s =
      let after := (s.station n).close e.state
      ⟨⟨s.setStation n after, [], none⟩, 0, s.station n, after⟩ := by
  simp [abortSession, hs, hk]

/-- A tool session's end returns the record as well. -/
theorem abortSession_tool {slot : Nat} {r : Record} {resume : Resume} (hs : (s.station n).state = .gauging e)
    (hk : u.kind = .tool slot) (hr : s.records.get slot = some r) (status : r.status = .gauging resume) :
    abortSession n u s =
      let after := (s.station n).close e.state
      let o := resumeRecord slot r resume s
      ⟨{ o with hall := o.hall.setStation n after }, resume.status.code, s.station n, after⟩ := by
  simp [abortSession, hs, hk, hr, status]

/-- A record that does not go back to READY takes its resume state and nothing else changes (R67, R22). -/
theorem resumeRecord_of_ne_ready {resume : Resume} (slot : Nat) (r : Record) (s : Hall) (h : resume ≠ .ready) :
    resumeRecord slot r resume s = ⟨s.putRecord slot { r with status := resume.status }, [], none⟩ := by
  cases resume with
  | ready => exact absurd rfl h
  | new | held reason => rfl

theorem sessionTool_of_get {slot : Nat} {r : Record} (hr : s.records.get slot = some r) :
    sessionTool s (.tool slot) = r.tool := by
  simp [sessionTool, hr]

/-- GAUGE-ABORT of a session. -/
theorem abortByRequest_session {client : Nat} (own : senderStation client s = some n)
    (hu : (s.station n).session = some u) :
    abortByRequest client s =
      let a := abortSession n u s
      ⟨a.offered.hall, acceptOrPromised a.offered.taken,
        [natWord u.kind.code, natWord (sessionTool s u.kind), natWord u.points.length, natWord a.state,
          optWord a.offered.taken, natWord (newGeneration a.before a.after), markWord a.before.pending],
        a.offered.notices⟩ := by
  simp [abortByRequest, own, hu]

/-- The expiry of a session's window: GAUGE-TIMEOUT to the bound client before the notices of the offer (R68). -/
theorem gaugeExpiry_session {bound : Nat} (hb : boundClient n s = some bound) (hu : (s.station n).session = some u) :
    gaugeExpiry n s =
      let a := abortSession n u s
      (a.offered.hall,
        noticeTo bound .gaugeTimeout
            [natWord n.val, natWord u.kind.code, natWord (sessionTool s u.kind), natWord u.points.length,
              natWord a.state, natWord (newGeneration a.before a.after)] ::
          a.offered.notices) := by
  simp [gaugeExpiry, hb, hu]

end Abort

/-- The completion of a gauge window expiry whose notices all find a place. -/
theorem exec_gaugeWindowExpiry {n : Fin 4} {s : State} {hall : Hall} {notices : List Notice}
    (hr : gaugeExpiry n s.hall = (hall, notices)) (room : s.roomFor notices.length) :
    exec (.gaugeWindowExpiry n) s = .next (s.eventTaken notices hall) := by
  have taken := drivePins_takeEvent (gaugeExpiry n) s (by rw [hr]; exact room)
  rw [hr] at taken
  exact congrArg Host.Outcome.next taken

/-- Settles O41, by the session's kind and the record's resume state. -/
theorem abortReturnsRecordAndStation : Obligations.AbortReturnsRecordAndStation := by
  intro n u e s hu hs st after gen
  refine ⟨fun h ha own => ?_, fun bound hb room => ?_, fun m hm => ?_⟩
  · have aborted := abortByRequest_session (client := h.client.toNat) own hu
    refine ⟨fun kind => ?_, fun slot r resume kind hr status other => ?_⟩
    · rw [abortSession_master hs kind, kind] at aborted
      exact exec_quiet ha ⟨rfl, rfl⟩ aborted rfl rfl (by decide)
    · rw [abortSession_tool hs kind hr status, kind, sessionTool_of_get hr,
        resumeRecord_of_ne_ready slot r s.hall other] at aborted
      exact exec_quiet ha ⟨rfl, rfl⟩ aborted rfl rfl (by decide)
  · have expired := gaugeExpiry_session hb hu
    refine ⟨fun kind => ?_, fun slot r c kind hr status hc noTaker => ?_⟩
    · rw [abortSession_master hs kind, kind] at expired
      exact exec_gaugeWindowExpiry expired room
    · have returned : resumeRecord slot r .ready s.hall = _ := enterReady_rise hc noTaker
      rw [abortSession_tool hs kind hr status, kind, sessionTool_of_get hr, returned] at expired
      exact exec_gaugeWindowExpiry expired room
  · have noEffect : takeEvent (gaugeExpiry m) s = s := by simp [takeEvent, gaugeExpiry, hm]
    exact congrArg (fun t => Host.Outcome.next (drivePins t)) noEffect

end Sys2Proof.Machine

/-! ## Opening a session, taking a point, ending a session (R62 to R66) -/

namespace Sys2Proof.Machine

/-! ### GAUGE-BEGIN -/

section Begin

variable {n : Fin 4} {tool : Word} {s : Hall}

/-- The master opens a session at a READY or DRIFT station (R64). -/
theorem beginSession_master {client : Nat} {entry : EntryState} (own : senderStation client s = some n)
    (state : (s.station n).state = entry.state) : beginSession client 0 s = beginMaster n entry s := by
  unfold beginSession
  rw [own]
  cases entry <;> simp [state, EntryState.state]

/-- A tool opens a session at a READY station alone (R44, R62). -/
theorem beginSession_tool {client : Nat} (own : senderStation client s = some n) (state : (s.station n).state = .ready)
    (isTool : tool ≠ 0) : beginSession client tool s = beginTool n .ready tool s := by
  unfold beginSession
  rw [own]
  dsimp only
  rw [state]
  exact if_neg isTool

theorem resumeOf_held {reason : HoldReason} (h : reason ≠ .worn) : resumeOf (.held reason) = .ok (.held reason) := by
  cases reason <;> first | rfl | exact absurd rfl h

variable {slot : Nat} {r : Record} (entry : EntryState) (found : s.lookUpTool tool = .ok (slot, r))
include found

/-- A record that was not usable goes to GAUGING and nothing else of the store changes (R63). -/
theorem beginTool_of_ne_ready {resume : Resume} (hr : resumeOf r.status = .ok resume) (other : resume ≠ .ready) :
    beginTool n entry tool s =
      accept [natWord slot, natWord r.status.code, natWord r.status.holdCode, natWord (s.station n).generation,
          natWord (s.station n).window]
        ((s.putRecord slot { r with status := .gauging resume }).setStation n
          ((s.station n).openSession entry (.tool slot))) := by
  simp only [beginTool, found, hr]
  cases resume with
  | ready => exact absurd rfl other
  | new | held reason => rfl

/-- A READY record leaves its chain as well, and the usable count falls (R63, R8, R33). -/
theorem beginTool_of_ready {c : ClassEntry} (status : r.status = .ready) (hc : s.classes.get r.cls = some c) :
    beginTool n entry tool s =
      ⟨{ s with
          records := s.records.put slot { r with status := .gauging .ready }
          stations := s.stations.set n.val ((s.station n).openSession entry (.tool slot)) n.isLt
          chains := s.chains.putList r.cls ((s.chains.list r.cls).filter fun x => x != slot)
          classes := s.classes.put r.cls (fallEntry c), flags := fallFlags c s.flags },
        .ok, [natWord slot, 2, 0, natWord (s.station n).generation, natWord (s.station n).window],
        fallNotices r.cls c⟩ := by
  have fall := usableFall_eq (s := leaveChain slot r.cls s) hc
  simp only [beginTool, found, status, resumeOf, fall]
  rfl

end Begin

/-- Settles O37, by the session's kind and the state of the record. -/
theorem gaugeBeginOpensSession : Obligations.GaugeBeginOpensSession := by
  intro h n s ha own st
  refine ⟨fun entry state => ?_, ?_⟩
  · exact exec_quiet ha ⟨rfl, rfl⟩ (beginSession_master own state) rfl rfl (by decide)
  · intro tool slot r state holds opened
    have isTool : tool ≠ 0 := by
      rintro rfl
      exact absurd holds.1 (by decide)
    have begins : handle (.gaugeBegin h tool) s.hall = beginTool n .ready tool s.hall :=
      beginSession_tool own state isTool
    have found := lookUpTool_of_holds holds
    refine ⟨fun status => ?_, fun reason other status => ?_, fun c status hc => ?_⟩
    · have answers := beginTool_of_ne_ready (n := n) .ready found (resume := .new) (by rw [status]; rfl) nofun
      rw [status] at answers
      exact exec_quiet ha ⟨rfl, rfl⟩ (begins.trans answers) rfl rfl (by decide)
    · have answers := beginTool_of_ne_ready (n := n) .ready found (resume := .held reason)
        (by rw [status]; exact resumeOf_held other) nofun
      rw [status] at answers
      exact exec_quiet ha ⟨rfl, rfl⟩ (begins.trans answers) rfl rfl (by decide)
    · exact exec_reply ha ⟨rfl, rfl⟩ (begins.trans (beginTool_of_ready .ready found status hc)) rfl rfl
        ((fallNotices_length r.cls c).trans (by decide)) (by decide)

/-! ### GAUGE-POINT -/

section Points

variable {client : Nat} {z x : Word} {n : Fin 4} {s : Hall} {u : Session}

/-- Both counts of a point lie in the range of an encoder count (R65). -/
def countsInRange (z x : Word) : Prop :=
  -8388608 ≤ z.toInt ∧ z.toInt ≤ 8388607 ∧ -8388608 ≤ x.toInt ∧ x.toInt ≤ 8388607

theorem countInRange_iff (count : Int) : countInRange count = true ↔ -8388608 ≤ count ∧ count ≤ 8388607 :=
  decide_eq_true_iff

/-- It is what GAUGE-POINT checks. -/
theorem countsInRange_iff (z x : Word) :
    (!countInRange (signedOf z) || !countInRange (signedOf x)) = false ↔ countsInRange z x := by
  simp only [Bool.or_eq_false_iff, Bool.not_eq_false', countInRange_iff, and_assoc]
  rfl

theorem takePoint_noSession (own : senderStation client s = some n) (hu : (s.station n).session = none) :
    takePoint client z x s = refuse .noSession s := by
  simp [takePoint, own, hu]

variable (own : senderStation client s = some n) (hu : (s.station n).session = some u)
include own hu

theorem takePoint_range (out : ¬countsInRange z x) : takePoint client z x s = refuse .range s := by
  have fails := (Bool.not_eq_false _).mp (mt (countsInRange_iff z x).mp out)
  simp only [takePoint, own, hu, fails, if_true]

theorem takePoint_full (inside : countsInRange z x) (full : u.points.length = 16) :
    takePoint client z x s = refuseWith .pointsFull [16, natWord (s.station n).window] s := by
  have passes := (countsInRange_iff z x).mpr inside
  simp only [takePoint, own, hu, passes, full, Bool.false_eq_true, if_false]
  rfl

theorem takePoint_appends (inside : countsInRange z x) (room : u.points.length < 16) :
    takePoint client z x s =
      accept [natWord (u.points.length + 1), natWord (s.station n).window]
        (s.setStation n { s.station n with
          session := some { u with points := u.points ++ [⟨z.toInt, x.toInt⟩], timer := (s.station n).window } }) := by
  have passes := (countsInRange_iff z x).mpr inside
  have place : ¬Config.maxPoints ≤ u.points.length := Nat.not_le.mpr room
  simp only [takePoint, own, hu, passes, place, Bool.false_eq_true, if_false, List.length_append]
  rfl

end Points

/-- Settles O38, check by check. -/
theorem gaugePointAppendsAndRestartsTimer : Obligations.GaugePointAppendsAndRestartsTimer := by
  intro h z x n s ha own st inRange
  have answers {code : Code} {body : List Word} {hall : Hall}
      (hr : takePoint h.client.toNat z x s.hall = ⟨hall, code, body, []⟩) :
      exec (.gaugePoint h z x) s = .next (s.answered .gaugePoint h code body [] hall) :=
    exec_quiet ha ⟨rfl, rfl⟩ hr rfl rfl (by decide)
  exact ⟨fun hu => answers (takePoint_noSession own hu), fun u hu out => answers (takePoint_range own hu out),
    fun u hu inside full => answers (takePoint_full own hu inside full),
    fun u hu inside room => answers (takePoint_appends own hu inside room)⟩

/-! ### GAUGE-END -/

section End

variable {n : Fin 4} {s : Hall}

section Session

variable {client : Nat} {temperature : Word} {u : Session} {p : Point} {rest : List Point} {g : GeometryHalf}
  {k : CorrectionHalf}

/-- The points of a session, reduced with the active set at the temperature limited to its range (R66, R69 to R72). -/
def sessionGathered (g : GeometryHalf) (k : CorrectionHalf) (temperature : Word) (p : Point) (rest : List Point) :
    Gathered :=
  gather (reducePoint g k (clampInt (-1000) 6000 temperature.toInt) p)
    (rest.map (reducePoint g k (clampInt (-1000) 6000 temperature.toInt)))

variable (own : senderStation client s = some n) (hu : (s.station n).session = some u) (points : u.points = p :: rest)
  (active : (s.station n).active = some (g, k))
include own hu points active

theorem endSession_tool {slot : Nat} (kind : u.kind = .tool slot) :
    endSession client temperature s =
      endTool n slot u.points.length (sessionGathered g k temperature p rest)
        (clampInt (-1000) 6000 temperature.toInt) s := by
  simp only [endSession, own, hu, points, active, kind]
  rfl

theorem endSession_master (kind : u.kind = .master) :
    endSession client temperature s =
      endMaster n u.points.length (sessionGathered g k temperature p rest) g k
        (clampInt (-1000) 6000 temperature.toInt) s := by
  simp only [endSession, own, hu, points, active, kind]
  rfl

end Session

theorem writtenGrade_eq (index : Int) :
    writtenGrade index = if index < 0 then 0 else if 15 < index then 15 else index.toNat := by
  unfold writtenGrade clampInt
  split
  · rfl
  · split <;> rfl

theorem countReject_eq {cls : Nat} {c : ClassEntry} (hc : s.classes.get cls = some c) :
    countReject cls s = s.putClass cls { c with rejects := c.rejects.bump } := by
  simp [countReject, hc]

section Tool

variable {slot : Nat} {r : Record} {c : ClassEntry} {m : Gathered} (hr : s.records.get slot = some r)
  (hc : s.classes.get r.cls = some c) (points : Nat) (temperature : Int)
include hr hc

/-- The record with the result of a session on it (R74, R75). -/
def measuredRecord (n : Fin 4) (r : Record) (c : ClassEntry) (m : Gathered) (temperature : Int) (s : Hall) : Record :=
  { r with
    measured := some (⟨m.length, m.radius, m.runout, writtenGrade (gradeIndex c.shape m.length)⟩,
      ⟨n, (s.station n).generation, temperature, 0⟩)
    rejectCause := classify c.shape m }

/-- An accepted tool enters READY, and no ticket takes it (R74). -/
theorem endTool_accepted (accepted : classify c.shape m = none)
    (noTaker : s.mode ≠ .online ∨ s.waitQueues.list r.cls = []) :
    endTool n slot points m temperature s =
      let after := { measuredRecord n r c m temperature s with status := .ready }
      accept
        (endBody 1 none m.saturated points m.length m.radius m.runout (gradeIndex c.shape m.length) temperature
          (s.station n) ((s.station n).close .ready) none)
        { s with
          records := s.records.put slot after
          chains := s.chains.putList r.cls (chainInsert (s.records.put slot after) slot after (s.chains.list r.cls))
          classes := s.classes.put r.cls (riseEntry c)
          stations := s.stations.set n.val ((s.station n).close .ready) n.isLt } := by
  have enters := enterReady_rise (r := measuredRecord n r c m temperature s) (slot := slot) hc noTaker
  unfold measuredRecord at enters
  rw [accepted] at enters
  simp only [endTool, hr, hc, applyResult, accepted, enters, measuredRecord]
  rfl

/-- A rejected tool is HELD REJECTED and its class counts the reject (R75). -/
theorem endTool_rejected {cause : RejectCause} (rejected : classify c.shape m = some cause) :
    endTool n slot points m temperature s =
      accept
        (endBody 2 (some cause) m.saturated points m.length m.radius m.runout (gradeIndex c.shape m.length) temperature
          (s.station n) ((s.station n).close .ready) none)
        { s with
          records := s.records.put slot { measuredRecord n r c m temperature s with status := .held .rejected }
          classes := s.classes.put r.cls { c with rejects := c.rejects.bump }
          stations := s.stations.set n.val ((s.station n).close .ready) n.isLt } := by
  have counts (x : Record) := countReject_eq (s := s.putRecord slot x) hc
  simp only [endTool, hr, hc, applyResult, rejected, counts, measuredRecord]
  rfl

end Tool

section Master

variable {m : Gathered} {g : GeometryHalf} {k : CorrectionHalf} (points : Nat) (temperature : Int)

/-- The master's deviations lie within the drift limit, none of its positions limited (R77). -/
def masterPasses (m : Gathered) (g : GeometryHalf) (k : CorrectionHalf) : Prop :=
  m.saturated = false ∧ ((m.length - g.zRef).natAbs : Int) ≤ k.driftLimit ∧
    ((m.radius - g.xRef).natAbs : Int) ≤ k.driftLimit

/-- It is what GAUGE-END of a master session checks. -/
theorem masterPasses_iff : masterPasses m g k ↔
    (!m.saturated && decide ((m.length - g.zRef).natAbs ≤ k.driftLimit) &&
      decide ((m.radius - g.xRef).natAbs ≤ k.driftLimit)) = true := by
  simp [masterPasses, and_assoc]

theorem endMaster_pass (pass : masterPasses m g k) :
    endMaster n points m g k temperature s =
      accept
        (endBody 3 none m.saturated points (m.length - g.zRef) (m.radius - g.xRef) k.driftLimit 0 temperature
          (s.station n) ((s.station n).close .ready) none)
        (s.setStation n ((s.station n).close .ready)) := by
  simp only [endMaster, masterPasses_iff.mp pass, if_true]
  rfl

theorem endMaster_fail {bound : Nat} (hb : boundClient n s = some bound) (fail : ¬masterPasses m g k) :
    endMaster n points m g k temperature s =
      let body := driftBody n (m.length - g.zRef) (m.radius - g.xRef) k.driftLimit (s.station n).generation m.saturated
      ⟨(setFlag .drift s).setStation n ((s.station n).close .drift), .ok,
        endBody 4 none m.saturated points (m.length - g.zRef) (m.radius - g.xRef) k.driftLimit 0 temperature
          (s.station n) ((s.station n).close .drift) none,
        [⟨.drift, everyToolroom, body⟩, noticeTo bound .drift body]⟩ := by
  simp only [endMaster, (Bool.not_eq_true _).mp (mt masterPasses_iff.mpr fail), hb, Bool.false_eq_true, if_false]
  rfl

end Master

end End

/-- Settles O39, by the session's kind and its verdict. -/
theorem gaugeEndAppliesTheVerdict : Obligations.GaugeEndAppliesTheVerdict := by
  intro h temperature n u p rest g k s ha own hu points active st T m
  refine ⟨?_, ?_⟩
  · intro slot r c kind hr hc index grade measured
    have ends : handle (.gaugeEnd h temperature) s.hall = endTool n slot u.points.length m T s.hall :=
      endSession_tool own hu points active kind
    have isMeasured : measuredRecord n r c m T s.hall = measured := by
      unfold measuredRecord
      rw [writtenGrade_eq]
      rfl
    refine ⟨fun accepted noTaker => ?_, fun cause rejected => ?_⟩
    · have answers := endTool_accepted (n := n) hr hc u.points.length T accepted noTaker
      rw [isMeasured] at answers
      exact exec_quiet ha ⟨rfl, rfl⟩ (ends.trans answers) rfl rfl (by decide)
    · have answers := endTool_rejected (n := n) hr hc u.points.length T rejected
      rw [isMeasured] at answers
      exact exec_quiet ha ⟨rfl, rfl⟩ (ends.trans answers) rfl rfl (by decide)
  · intro kind devZ devX pass body
    have ends : handle (.gaugeEnd h temperature) s.hall = endMaster n u.points.length m g k T s.hall :=
      endSession_master own hu points active kind
    refine ⟨fun passes => ?_, fun bound fails hb => ?_⟩
    · exact exec_quiet ha ⟨rfl, rfl⟩ (ends.trans (endMaster_pass _ _ passes)) rfl rfl (by decide)
    · exact exec_reply ha ⟨rfl, rfl⟩ (ends.trans (endMaster_fail _ _ hb fails)) rfl rfl (by simp) (by decide)

end Sys2Proof.Machine

/-! ## The arithmetic of measuring (Rounding, spec/00_scope.md; 4.5) -/

namespace Sys2Proof.Machine

/-! ### Rounding and ceiling -/

/-- A magnitude plus half a divisor, over the divisor: the product lies within half a divisor of the magnitude, and
above it at a half. -/
theorem roundDiv_bounds (a : Nat) {d : Nat} (hd : 0 < d) :
    2 * ((2 * a + d) / (2 * d) * d) ≤ 2 * a + d ∧ 2 * a < 2 * ((2 * a + d) / (2 * d) * d) + d := by
  have low := Nat.div_mul_le_self (2 * a + d) (2 * d)
  have high := Nat.lt_div_mul_add (a := 2 * a + d) (b := 2 * d) (by omega)
  rw [Nat.mul_left_comm] at low high
  exact ⟨low, by omega⟩

/-- Rounding is to the nearest whole number, and at a half to the one farther from zero. -/
theorem roundDiv_nearest (n : Int) {d : Nat} (hd : 0 < d) :
    2 * (roundDiv n d * d - n).natAbs ≤ d ∧
      (2 * (roundDiv n d * d - n).natAbs = d → n.natAbs ≤ (roundDiv n d * d).natAbs) := by
  obtain ⟨low, high⟩ := roundDiv_bounds n.natAbs hd
  unfold roundDiv
  generalize (2 * n.natAbs + d) / (2 * d) = q at low high
  have product : ((q * d : Nat) : Int) = q * d := Nat.cast_mul q d
  split
  · rw [← product]
    omega
  · rw [Int.neg_mul, ← product]
    omega

/-- The ceiling is the least whole number not below the quotient. -/
theorem ceilDiv_le_iff {n d k : Nat} (hd : 0 < d) : ceilDiv n d ≤ k ↔ n ≤ k * d := by
  rw [ceilDiv, Nat.div_le_iff_le_mul_add_pred hd, Nat.mul_comm d k]
  omega

/-- The largest charge: amount 65,535 at severity 255 (R166). -/
theorem consumedBy_le {amount severity : Nat} (ha : amount ≤ 65535) (hs : severity ≤ 255) :
    consumedBy amount severity ≤ 261117 := by
  have product : amount * severity ≤ 65535 * 255 := Nat.mul_le_mul ha hs
  exact (ceilDiv_le_iff (by decide)).mpr (product.trans (by decide))

/-! ### Gathering points (R72) -/

theorem largest_spec (m : Int) (l : List Int) : largest m l ∈ m :: l ∧ ∀ y ∈ m :: l, y ≤ largest m l := by
  induction l generalizing m with
  | nil => simp [largest]
  | cons x xs ih =>
    obtain ⟨listed, bound⟩ := ih (if m < x then x else m)
    obtain ⟨top, others⟩ := List.forall_mem_cons.mp bound
    rw [largest]
    simp only [List.mem_cons, forall_eq_or_imp] at listed ⊢
    by_cases above : m < x
    · rw [if_pos above] at listed top others ⊢
      exact ⟨.inr listed, by omega, top, others⟩
    · rw [if_neg above] at listed top others ⊢
      exact ⟨listed.imp id .inr, top, by omega, others⟩

theorem smallest_spec (m : Int) (l : List Int) : smallest m l ∈ m :: l ∧ ∀ y ∈ m :: l, smallest m l ≤ y := by
  induction l generalizing m with
  | nil => simp [smallest]
  | cons x xs ih =>
    obtain ⟨listed, bound⟩ := ih (if x < m then x else m)
    obtain ⟨bottom, others⟩ := List.forall_mem_cons.mp bound
    rw [smallest]
    simp only [List.mem_cons, forall_eq_or_imp] at listed ⊢
    by_cases below : x < m
    · rw [if_pos below] at listed bottom others ⊢
      exact ⟨.inr listed, by omega, bottom, others⟩
    · rw [if_neg below] at listed bottom others ⊢
      exact ⟨listed.imp id .inr, bottom, by omega, others⟩

/-- The largest value of a field of the points is that of a point, and no point's is larger. -/
theorem largest_map (f : Reduced → Int) (first : Reduced) (rest : List Reduced) :
    (∃ q ∈ first :: rest, largest (f first) (rest.map f) = f q) ∧
      ∀ q ∈ first :: rest, f q ≤ largest (f first) (rest.map f) := by
  have spec := largest_spec (f first) (rest.map f)
  rw [← List.map_cons] at spec
  obtain ⟨q, hq, value⟩ := List.mem_map.mp spec.1
  exact ⟨⟨q, hq, value.symm⟩, fun v hv => spec.2 _ (List.mem_map_of_mem hv)⟩

/-- The smallest value of a field of the points is that of a point, and no point's is smaller. -/
theorem smallest_map (f : Reduced → Int) (first : Reduced) (rest : List Reduced) :
    (∃ q ∈ first :: rest, smallest (f first) (rest.map f) = f q) ∧
      ∀ q ∈ first :: rest, smallest (f first) (rest.map f) ≤ f q := by
  have spec := smallest_spec (f first) (rest.map f)
  rw [← List.map_cons] at spec
  obtain ⟨q, hq, value⟩ := List.mem_map.mp spec.1
  exact ⟨⟨q, hq, value.symm⟩, fun v hv => spec.2 _ (List.mem_map_of_mem hv)⟩

/-- A spread is limited at the upper end alone. -/
theorem limited_of_nonneg {spread : Int} (h : 0 ≤ spread) :
    limited spread = if 9999999 < spread then 9999999 else spread :=
  if_neg (by unfold geometryLimit; omega)

theorem inGeometryRange_of_nonneg {spread : Int} (h : 0 ≤ spread) :
    inGeometryRange spread = false ↔ 9999999 < spread := by
  unfold inGeometryRange geometryLimit
  rw [decide_eq_false_iff_not]
  omega

/-- The spread runs from a point with the smallest X position; the runout is the spread limited, and the session is
saturated by a point or by its spread (R72). -/
theorem gather_runout (first : Reduced) (rest : List Reduced) :
    ∃ q ∈ first :: rest, (∀ v ∈ first :: rest, q.xp ≤ v.xp) ∧
      (gather first rest).runout = (if 9999999 < (gather first rest).radius - q.xp then 9999999
        else (gather first rest).radius - q.xp) ∧
      ((gather first rest).saturated = true ↔
        (∃ v ∈ first :: rest, v.saturated = true) ∨ 9999999 < (gather first rest).radius - q.xp) := by
  obtain ⟨⟨q, hq, value⟩, bound⟩ := smallest_map Reduced.xp first rest
  have spread : 0 ≤ largest first.xp (rest.map Reduced.xp) - q.xp :=
    Int.sub_nonneg_of_le ((largest_map Reduced.xp first rest).2 q hq)
  refine ⟨q, hq, value ▸ bound, ?_, ?_⟩
  · simp only [gather, value]
    exact limited_of_nonneg spread
  · simp only [gather, value, Bool.or_eq_true, List.any_eq_true, Bool.not_eq_true', inGeometryRange_of_nonneg spread]

/-- Settles O42. -/
theorem measuringArithmeticIsExact : Obligations.MeasuringArithmeticIsExact := by
  refine ⟨⟨fun n d hd => roundDiv_nearest n hd, fun n d hd => ?_, fun _ _ _ => rfl, fun _ _ _ => rfl,
    fun amount severity => ⟨rfl, consumedBy_le⟩⟩, ?_⟩
  · exact ⟨(ceilDiv_le_iff hd).mp le_rfl, fun k => (ceilDiv_le_iff hd).mpr⟩
  · intro first rest points m
    obtain ⟨lengthOf, lengthBound⟩ := largest_map Reduced.zc first rest
    obtain ⟨radiusOf, radiusBound⟩ := largest_map Reduced.xp first rest
    exact ⟨lengthOf, lengthBound, radiusOf, radiusBound, gather_runout first rest⟩

end Sys2Proof.Machine

/-! ## A second of the reference clock (R61, R108, R175, R202) -/

namespace Sys2Proof.Machine

/-! ### The lines do not bear on events -/

/-- The state with other levels on its lines. -/
def State.withPins (s : State) (pins : Pins) : State := { s with port := { s.port with pins := pins } }

theorem drivePins_eq_withPins (s : State) : drivePins s =
    s.withPins ⟨s.port.readyLine, !s.port.outbound.isEmpty, attnLine s.hall, releaseLines s.hall⟩ := rfl

@[simp] theorem drivePins_withPins (s : State) (pins : Pins) : drivePins (s.withPins pins) = drivePins s := rfl

theorem placeNotice_withPins (s : State) (pins : Pins) (n : Notice) :
    placeNotice (s.withPins pins) n = (placeNotice s n).withPins pins := by
  unfold placeNotice
  rw [apply_ite (State.withPins · pins)]
  rfl

theorem placeNotices_withPins (notices : List Notice) (s : State) (pins : Pins) :
    placeNotices notices (s.withPins pins) = (placeNotices notices s).withPins pins := by
  induction notices generalizing s with
  | nil => rfl
  | cons n rest ih => rw [placeNotices_cons, placeNotices_cons, placeNotice_withPins, ih]

theorem takeEvent_withPins (event : Hall → Hall × List Notice) (s : State) (pins : Pins) :
    takeEvent event (s.withPins pins) = (takeEvent event s).withPins pins :=
  placeNotices_withPins _ { s with hall := (event s.hall).1 } pins

/-- The events taken one after another. -/
def takeAll (due : List Due) (s : State) : State := due.foldl (fun s d => takeEvent d.event s) s

theorem takeAll_cons (d : Due) (due : List Due) (s : State) :
    takeAll (d :: due) s = takeAll due (takeEvent d.event s) := rfl

theorem takeAll_withPins (due : List Due) (s : State) (pins : Pins) :
    takeAll due (s.withPins pins) = (takeAll due s).withPins pins := by
  induction due generalizing s with
  | nil => rfl
  | cons d rest ih => rw [takeAll_cons, takeAll_cons, takeEvent_withPins, ih]

/-! ### The command of an event -/

/-- The command that stands for a timed event. -/
def Due.command : Due → Instr
  | .gauge n => .gaugeWindowExpiry n
  | .openWindow c => .openWindowExpiry c
  | .takeWindow c => .takeWindowExpiry c
  | .sweep => .sweep

theorem exec_command (d : Due) (s : State) : exec d.command s = .next (drivePins (takeEvent d.event s)) := by
  cases d <;> rfl

/-- Driving the lines after each event, as the commands do, comes to driving them after the last. -/
theorem runAll_commands (d : Due) (rest : List Due) (s : State) :
    runAll ((d :: rest).map Due.command) s = .next (drivePins (takeAll (d :: rest) s)) := by
  induction rest generalizing d s with
  | nil => simp [runAll, exec_command, takeAll]
  | cons e rest ih =>
    rw [List.map_cons, runAll, exec_command]
    dsimp only
    rw [ih, drivePins_eq_withPins (takeEvent d.event s), takeAll_withPins, drivePins_withPins, ← takeAll_cons]

/-! ### The order of the events -/

/-- Whatever number picks the order, every element stands in it once. -/
theorem arrange_perm {α : Type} {fuel : Nat} (n : Nat) {l : List α} (h : l.length ≤ fuel) :
    (arrange fuel n l).Perm l := by
  induction fuel generalizing n l with
  | zero =>
    rw [List.eq_nil_of_length_eq_zero (Nat.le_zero.mp h)]
    rfl
  | succ fuel ih =>
    match l with
    | [] | [x] => rfl
    | x :: y :: rest =>
      have picked : n % (x :: y :: rest).length < (x :: y :: rest).length := Nat.mod_lt _ (Nat.succ_pos _)
      have others := ih (n / (x :: y :: rest).length) (l := (x :: y :: rest).eraseIdx (n % (x :: y :: rest).length))
        (by rw [List.length_eraseIdx_of_lt picked]; omega)
      rw [arrange, List.getElem?_eq_getElem picked]
      exact (others.cons _).trans (List.getElem_cons_eraseIdx_perm picked)

/-! ### The timers at their end -/

/-- The session window of a station is at its end. -/
def gaugeEnds (s : Hall) (n : Fin 4) : Bool := decide (∃ u ∈ (s.station n).session, u.timer ≤ 1)

/-- The window of a channel in a state is at its end. -/
def windowEnds (s : Hall) (x : ChannelState) (c : Fin 16) : Bool :=
  decide ((s.channel c).state = x ∧ ∃ t ∈ (s.channel c).timer, t ≤ 1)

/-- The commands of the timers at their end, in the order of the units. -/
def commandsDue (s : Hall) : List Instr :=
  ((List.finRange 4).filter (gaugeEnds s)).map Instr.gaugeWindowExpiry ++
    ((List.finRange 16).filter (windowEnds s .released)).map Instr.openWindowExpiry ++
    ((List.finRange 16).filter (windowEnds s .opened)).map Instr.takeWindowExpiry ++
    (if s.sweep.length ≤ s.sweep.count + 1 then [Instr.sweep] else [])

theorem countSecond_station (s : Hall) (n : Fin 4) : (countSecond s).station n = (s.station n).second := by
  simp only [Hall.station, countSecond, mapBank_get]

theorem countSecond_channel (s : Hall) (c : Fin 16) : (countSecond s).channel c = (s.channel c).second := by
  simp only [Hall.channel, countSecond, mapBank_get]

/-- A second moves no channel to another state. -/
theorem releaseLines_countSecond (s : Hall) : releaseLines (countSecond s) = releaseLines s := by
  unfold releaseLines mapBank
  refine congrArg Vector.ofFn (funext fun c => ?_)
  change decide (((countSecond s).channel c).state = _) = decide ((s.channel c).state = _)
  rw [countSecond_channel, Channel.second]

theorem dueGauges_countSecond (s : Hall) :
    dueGauges (countSecond s) = ((List.finRange 4).filter (gaugeEnds s)).map Due.gauge := by
  have ends (n : Fin 4) :
      decide (((countSecond s).station n).session.map Session.timer = some 0) = gaugeEnds s n := by
    rw [countSecond_station]
    cases hu : (s.station n).session <;> simp [gaugeEnds, Station.second, hu, Nat.sub_eq_zero_iff_le]
  unfold dueGauges
  simp only [ends]

/-- A channel is in one state, so at most one of its windows runs out. -/
theorem dueWindow_countSecond (s : Hall) (c : Fin 16) :
    dueWindow (countSecond s) c =
      (if windowEnds s .released c then [Due.openWindow c] else []) ++
        (if windowEnds s .opened c then [Due.takeWindow c] else []) := by
  unfold dueWindow windowEnds
  rw [countSecond_channel]
  cases timer : (s.channel c).timer with
  | none => simp [Channel.second, timer]
  | some t =>
    by_cases last : t ≤ 1
    · have stops : t - 1 = 0 := by omega
      cases state : (s.channel c).state <;> simp [Channel.second, timer, state, stops, last]
    · obtain ⟨k, runs⟩ : ∃ k, t - 1 = k + 1 := ⟨t - 2, by omega⟩
      simp [Channel.second, timer, runs, last]

theorem flatMap_singleton_ite {α β : Type} (p : α → Bool) (f : α → β) (l : List α) :
    l.flatMap (fun x => if p x then [f x] else []) = (l.filter p).map f := by
  induction l with
  | nil => rfl
  | cons x xs ih => cases h : p x <;> simp [h, ih]

/-- The events a second brings are those of the timers at their end. -/
theorem dueEvents_countSecond (s : Hall) :
    ((dueEvents (countSecond s)).map Due.command).Perm (commandsDue s) := by
  have windows := (List.flatMap_append_perm (List.finRange 16)
    (fun c => if windowEnds s .released c then [Due.openWindow c] else [])
    (fun c => if windowEnds s .opened c then [Due.takeWindow c] else [])).symm
  simp only [← dueWindow_countSecond, flatMap_singleton_ite] at windows
  unfold dueEvents commandsDue
  rw [dueGauges_countSecond, List.append_assoc (List.map _ _) (List.map _ _), List.map_append, List.map_append,
    List.map_map]
  refine .append (.append (.refl _) ?_) ?_
  · simpa [Function.comp_def, Due.command] using windows.map Due.command
  · rw [apply_ite (List.map Due.command)]
    rfl

/-! ### A step that counts a second -/

theorem step_second {s : State} (empty : s.pending = []) (start : s.port.start ≠ .due)
    (free : s.port.serving = none) :
    step s = .next (drivePins (takeAll
      (arrange (dueEvents (countSecond s.hall)).length (Config.coincidence s.hall.freeIndex)
        (dueEvents (countSecond s.hall)))
      { s with hall := countSecond s.hall })) := by
  have idles : step s = .next (idle s) := by simp only [step, empty]
  have passes : idle s = drivePins (secondPasses s) := by simp only [idle, free, if_neg start]
  rw [idles, passes]
  rfl

/-- Settles O2: the events are those of the timers at their end, each taken once in the order picked. -/
theorem secondCountsRunningTimers : Obligations.SecondCountsRunningTimers := by
  intro s empty start free counted ends due
  have second := step_second empty start free
  have arranged := arrange_perm (Config.coincidence s.hall.freeIndex) (le_refl (dueEvents (countSecond s.hall)).length)
  have order := (arranged.map Due.command).trans (dueEvents_countSecond s.hall)
  generalize arrange _ _ _ = events at second arranged order
  refine ⟨fun none_due => ?_, fun some_due => ?_⟩
  · have no_events : events = [] := List.map_eq_nil_iff.mp (order.trans (.of_eq none_due)).eq_nil
    rw [second, no_events, ← releaseLines_countSecond]
    rfl
  · refine ⟨events.map Due.command, order, second.trans ?_⟩
    cases events with
    | nil => exact absurd order.symm.eq_nil some_due
    | cons d rest => exact (runAll_commands d rest _).symm

end Sys2Proof.Machine

/-! ## A promise and an offer, case by case (R94 to R96) -/

namespace Sys2Proof.Machine

/-! ### A promise -/

/-- A bound ticket: the record leaves its chain, and a ticket that waited leaves its wait queue. -/
theorem bindTicket_eq (n : Nat) (t : Ticket) (slot : Nat) (r : Record) (s : Hall) :
    bindTicket n t slot r s = { s with
      records := s.records.put slot { r with status := .promised }
      chains := s.chains.putList r.cls ((s.chains.list r.cls).filter fun x => x != slot)
      tickets := s.tickets.put n { t with status := .promised slot }
      waitQueues := if t.status = TicketStatus.waiting then
          s.waitQueues.putList t.cls ((s.waitQueues.list t.cls).filter fun x => x != n)
        else s.waitQueues } := by
  unfold bindTicket
  cases t.status <;> rfl

theorem placeWithDrawer_enabled {n : Nat} {t : Ticket} {c : Fin 16} {bin : Fin 64} {s : Hall}
    (on : (s.channel c).enabled = true) :
    placeWithDrawer n t (.drawer c bin) s = (startCycle c (s.setChannel c { s.channel c with
      queue := channelQueueInsert s.tickets n (bandRank t.band) (s.channel c).queue }), .channel) :=
  if_pos on

theorem placeWithDrawer_outside {n : Nat} {t : Ticket} {location : Location} {s : Hall}
    (outside : ∀ c bin, location = .drawer c bin → (s.channel c).enabled = false) :
    placeWithDrawer n t location s = ({ s with handover := s.handover ++ [n] }, .handover) := by
  cases location with
  | drawer c bin => exact if_neg (by simp [outside c bin rfl])
  | none | shelf _ | pocket _ _ => rfl

theorem release_of_promised {t : Ticket} {slot : Nat} (status : t.status = .promised slot) :
    t.release = { t with status := .released slot } := by
  unfold Ticket.release
  rw [status]

/-- Settles O43: the drawer unit takes the bound ticket, by the channel of the record's drawer. -/
theorem promiseJoinsRecordAndTicket : Obligations.PromiseJoinsRecordAndTicket := by
  intro n slot t r s tickets joined
  have bound : bindTicket n t slot r s = joined := bindTicket_eq n t slot r s
  refine ⟨fun c bin drawer on => ?_, fun outside => ?_⟩
  · have placed : promise n t slot r s = (startCycle c (joined.setChannel c { s.channel c with
        queue := channelQueueInsert tickets n (bandRank t.band) (s.channel c).queue }), .channel) := by
      rw [promise_eq, bound, drawer]
      exact placeWithDrawer_enabled on
    refine ⟨fun busy => ?_, fun idle online empty => ?_⟩
    · rw [placed, startCycle_none]
      · rfl
      · rw [setChannel_channel]
        exact busy.imp id .inl
    · have head : channelQueueInsert tickets n (bandRank t.band) (s.channel c).queue = [n] := by rw [empty]; rfl
      rw [placed, head, startCycle_head (n := n) (rest := []) (t := { t with status := .promised slot })]
      · rw [release_of_promised rfl, setChannel_channel]
        simp [joined, tickets]
      · rw [setChannel_channel]; exact idle
      · exact online
      · rw [setChannel_channel]
      · exact get_put_self ..
  · rw [promise_eq, bound]
    exact placeWithDrawer_outside outside

/-! ### An offer -/

theorem meets_iff {r : Record} {t : Ticket} :
    meets r t = true ↔ t.lowGrade ≤ r.grade ∧ r.grade ≤ t.highGrade ∧ t.life ≤ r.life := by
  simp [meets]

theorem meets_eq_false_iff {r : Record} {t : Ticket} :
    meets r t = false ↔ ¬(t.lowGrade ≤ r.grade ∧ r.grade ≤ t.highGrade ∧ t.life ≤ r.life) := by
  rw [← meets_iff, Bool.not_eq_true]

/-- Settles O44, by whether a waiting ticket is met. -/
theorem offerServesFirstTicketMet : Obligations.OfferServesFirstTicketMet := by
  intro slot r s hr met
  refine ⟨fun n t before after online queue ht first passed => ?_, fun noTaker => ?_⟩
  · exact offer_some hr online queue ht (meets_iff.mpr first) fun x hx u hu => meets_eq_false_iff.mpr (passed x hx u hu)
  · exact offer_none hr (noTaker.imp id fun unmet x hx u hu => meets_eq_false_iff.mpr (unmet x hx u hu))

end Sys2Proof.Machine

/-! ## ISSUE (R84, R86, R91 to R93) -/

namespace Sys2Proof.Machine

/-! ### The ticket at the tail of its band -/

theorem bandRank_lt_iff {a b : Band} : bandRank a < bandRank b ↔ a.code < b.code := by
  cases a <;> cases b <;> decide

/-- A ticket placed by its band stands behind the tickets of its band and of those before it, and in front of the rest. -/
theorem insertByBand_split (tickets : Table Ticket) (n : Nat) (band : Band) (queue : List Nat) :
    ∃ before after, queue = before ++ after ∧
      (∀ x ∈ before, ∀ u, tickets.get x = some u → u.band.code ≤ band.code) ∧
      (∀ x ∈ after.head?, ∃ u, tickets.get x = some u ∧ band.code < u.band.code) ∧
      insertByBand tickets n (bandRank band) queue = before ++ n :: after := by
  induction queue with
  | nil => exact ⟨[], [], rfl, nofun, nofun, rfl⟩
  | cons x rest ih =>
    unfold insertByBand
    by_cases below : bandRank band < rankOf tickets x
    · refine ⟨[], x :: rest, rfl, nofun, fun y hy => ?_, if_pos below⟩
      obtain rfl : x = y := by simpa using hy
      cases hx : tickets.get x with
      | none => simp [rankOf, hx] at below
      | some u => exact ⟨u, rfl, bandRank_lt_iff.mp (rankOf_eq hx ▸ below)⟩
    · obtain ⟨before, after, split, first, next, placed⟩ := ih
      refine ⟨x :: before, after, by rw [split]; rfl, fun y hy u hu => ?_, next, ?_⟩
      · rcases List.mem_cons.mp hy with rfl | hy
        · rw [rankOf_eq hu, bandRank_lt_iff] at below
          omega
        · exact first y hy u hu
      · rw [if_neg below, placed]
        rfl

/-! ### The first record of a chain that meets a ticket -/

theorem selectFrom_eq_none {records : Table Record} {t : Ticket} {chain : List Nat}
    (h : ∀ x ∈ chain, ∀ r, records.get x = some r → meets r t = false) : selectFrom records t chain = none := by
  induction chain with
  | nil => rfl
  | cons x rest ih =>
    have later := ih fun y hy => h y (List.mem_cons_of_mem _ hy)
    unfold selectFrom
    cases hx : records.get x with
    | none => exact later
    | some r => simp [h x List.mem_cons_self r hx, later]

theorem selectFrom_eq_first {records : Table Record} {t : Ticket} {before after : List Nat} {slot : Nat} {r : Record}
    (hr : records.get slot = some r) (met : meets r t = true)
    (passed : ∀ x ∈ before, ∀ u, records.get x = some u → meets u t = false) :
    selectFrom records t (before ++ slot :: after) = some (slot, r) := by
  induction before with
  | nil => simp [selectFrom, hr, met]
  | cons x rest ih =>
    have later := ih fun y hy => passed y (List.mem_cons_of_mem _ hy)
    rw [List.cons_append]
    unfold selectFrom
    cases hx : records.get x with
    | none => exact later
    | some u => simp [passed x List.mem_cons_self u hx, later]

section Serve

variable {n : Nat} {t : Ticket} {s : Hall}

/-- With the mode ONLINE, the first record of the chain that meets the ticket is promised to it. -/
theorem serveByClass_promise {before after : List Nat} {slot : Nat} {r : Record} (online : s.mode = .online)
    (chain : s.chains.list t.cls = before ++ slot :: after) (hr : s.records.get slot = some r) (met : meets r t = true)
    (passed : ∀ x ∈ before, ∀ u, s.records.get x = some u → meets u t = false) :
    serveByClass n t s = promiseNew n t slot r s := by
  unfold serveByClass
  simp only [online, chain, selectFrom_eq_first hr met passed]

/-- With the mode not ONLINE, or no record of the chain that meets it, the ticket waits. -/
theorem serveByClass_wait
    (h : s.mode ≠ .online ∨ ∀ x ∈ s.chains.list t.cls, ∀ r, s.records.get x = some r → meets r t = false) :
    serveByClass n t s = letWait n t s := by
  unfold serveByClass
  split
  · rename_i online
    rw [selectFrom_eq_none (h.resolve_left (absurd online))]
  · rfl

end Serve

/-- A ticket that waits joins its class's wait queue, with the tickets ahead of it counted. -/
theorem letWait_eq (n : Nat) (t : Ticket) (s : Hall) : letWait n t s =
    ⟨{ s with
        tickets := s.tickets.put n t
        waitQueues := s.waitQueues.putList t.cls
          (insertByBand (s.tickets.put n t) n (bandRank t.band) (s.waitQueues.list t.cls)) }, none,
      (insertByBand (s.tickets.put n t) n (bandRank t.band) (s.waitQueues.list t.cls)).idxOf n⟩ := by
  unfold letWait joinWaitQueue
  simp [list_putList, Hall.putTicket]

/-! ### The ticket that an ISSUE fills -/

/-- The ticket of an ISSUE, its optional fields read from the form, from the class and from the sender. -/
theorem issuedTicket_eq {client cls : Nat} {tag : Word} {f : IssueForm} {specific : Option Nat} {c : ClassEntry}
    {s : Hall} (hc : s.classes.get cls = some c) :
    issuedTicket client tag f cls specific s =
      { status := .waiting, requester := client, tag := tag, origin := .requested, band := f.band, cls := cls,
        lowGrade := (match f.range with | some g => g.1.toNat | none => 0),
        highGrade := (match f.range with | some g => g.2.toNat | none => c.shape.topGrade),
        life := if f.life = 0 then 1 else f.life.toNat, specific := specific,
        dest := (match f.dest with
          | some d => some d.toNat
          | none => if (s.client client).role = .machine then some client else none),
        notify := f.notify, age := 0 } := by
  have top : topGradeOf cls s = c.shape.topGrade := by simp [topGradeOf, hc]
  have sender : defaultDest client s = if (s.client client).role = .machine then some client else none := by
    unfold defaultDest
    cases (s.client client).role <;> rfl
  unfold issuedTicket
  rw [top, sender]
  cases f.range <;> cases f.dest <;> rfl

/-! ### The checks of R91 -/

/-- Check 1 of R91 in the manual's words. -/
theorem issueInRange_iff {f : IssueForm} {s : Hall} : issueInRange f s = true ↔
    (f.byTool = true → 1 ≤ f.target.toNat ∧ f.target.toNat ≤ 99999999) ∧
      (f.byTool = false → 1 ≤ f.target.toNat ∧ f.target.toNat ≤ 255) ∧
      (∀ g, f.range = some g → g.1.toNat ≤ g.2.toNat) ∧ f.life.toNat ≤ 1000000 ∧
      (∀ d, f.dest = some d → d.toNat ≤ 63 ∧ (s.client d.toNat).role = .machine) := by
  unfold issueInRange
  simp only [Bool.and_eq_true, decide_eq_true_iff, and_assoc]
  rw [← and_assoc (a := f.byTool = true → _)]
  refine and_congr ?target (and_congr ?grades (and_congr Iff.rfl ?machine))
  case target =>
    cases f.byTool with
    | true => exact ⟨fun h => ⟨fun _ => of_decide_eq_true h, nofun⟩, fun h => decide_eq_true (h.1 rfl)⟩
    | false => exact ⟨fun h => ⟨nofun, fun _ => of_decide_eq_true h⟩, fun h => decide_eq_true (h.2 rfl)⟩
  case grades => cases f.range <;> simp
  case machine => cases f.dest <;> simp [Nat.lt_succ_iff]

section Issue

variable {client : Nat} {tag : Word} {f : IssueForm} {s : Hall}

theorem issueTicket_range (out : issueInRange f s = false) : issueTicket client tag f s = refuse .range s := by
  unfold issueTicket
  rw [out]
  rfl

theorem issueTicket_byTool (range : issueInRange f s = true) (byTool : f.byTool = true) :
    issueTicket client tag f s = issueByTool client tag f s := by
  unfold issueTicket
  rw [range, byTool]
  rfl

theorem issueTicket_byClass (range : issueInRange f s = true) (byTool : f.byTool = false) :
    issueTicket client tag f s = issueByClass client tag f s := by
  unfold issueTicket
  rw [range, byTool]
  rfl

theorem issueByClass_serves {n : Nat} {c : ClassEntry} (hc : s.classes.get f.target.toNat = some c)
    (free : s.tickets.lowestFree 128 = some n) :
    issueByClass client tag f s =
      answerServed n (issuedTicket client tag f f.target.toNat none s)
        (serveByClass n (issuedTicket client tag f f.target.toNat none s) s) := by
  unfold issueByClass
  rw [hc, show s.tickets.lowestFree Config.tickets = some n from free]

theorem issueByClass_full {c : ClassEntry} (hc : s.classes.get f.target.toNat = some c)
    (full : s.tickets.lowestFree 128 = none) : issueByClass client tag f s = refuse .waitFull s := by
  unfold issueByClass
  rw [hc, show s.tickets.lowestFree Config.tickets = none from full]

theorem issueByClass_undefined (hc : s.classes.get f.target.toNat = none) :
    issueByClass client tag f s = refuse .noClass s := by
  unfold issueByClass
  rw [hc]

theorem issueByTool_unknown (unlisted : s.index.get f.target.toNat = none) :
    issueByTool client tag f s = refuse .unknownTool s := by
  unfold issueByTool Hall.findTool
  rw [unlisted]

variable {slot n : Nat} {r : Record}

theorem issueByTool_full (found : s.findTool f.target.toNat = some (slot, r))
    (full : s.tickets.lowestFree 128 = none) : issueByTool client tag f s = refuse .waitFull s := by
  unfold issueByTool
  rw [found]
  dsimp only
  rw [show s.tickets.lowestFree Config.tickets = none from full]

theorem issueByTool_promises (found : s.findTool f.target.toNat = some (slot, r))
    (free : s.tickets.lowestFree 128 = some n) (ready : r.status = .ready) (online : s.mode = .online) :
    issueByTool client tag f s =
      answerServed n (issuedTicket client tag f r.cls (some f.target.toNat) s)
        (promiseNew n (issuedTicket client tag f r.cls (some f.target.toNat) s) slot r s) := by
  unfold issueByTool
  rw [found]
  dsimp only
  rw [show s.tickets.lowestFree Config.tickets = some n from free]
  simp only [ready, online]

/-- BUSY for a GAUGING tool, else OFFLINE while the mode is not ONLINE, else STATE for a tool that is not READY. -/
theorem issueByTool_refuses (found : s.findTool f.target.toNat = some (slot, r))
    (free : s.tickets.lowestFree 128 = some n) :
    (r.status.isGauging = true → issueByTool client tag f s = refuse .busy s) ∧
      (r.status.isGauging = false → s.mode ≠ .online → issueByTool client tag f s = refuse .offline s) ∧
      (r.status.isGauging = false → s.mode = .online → r.status ≠ .ready →
        issueByTool client tag f s = refuse .state s) := by
  unfold issueByTool
  rw [found]
  dsimp only
  rw [show s.tickets.lowestFree Config.tickets = some n from free]
  dsimp only
  cases status : r.status with
  | gauging _ => exact ⟨fun _ => rfl, nofun, nofun⟩
  | ready =>
    cases s.mode with
    | online => exact ⟨nofun, fun _ away => absurd rfl away, fun _ _ ready => absurd rfl ready⟩
    | draining | offline => exact ⟨nofun, fun _ _ => rfl, nofun⟩
  | new | promised | out | mounted | held _ =>
    cases s.mode with
    | online => exact ⟨nofun, fun _ away => absurd rfl away, fun _ _ _ => rfl⟩
    | draining | offline => exact ⟨nofun, fun _ _ => rfl, nofun⟩

end Issue

/-! ### The obligation -/

/-- What an ISSUE answers whose ticket was promised a record at once. -/
theorem answerServed_promiseNew (n : Nat) (t : Ticket) (slot : Nat) (r : Record) (s : Hall) :
    answerServed n t (promiseNew n t slot r s) =
      ⟨(promise n { t with status := .promised slot } slot r s).1, .promised,
        issuePromisedBody n slot r (promise n { t with status := .promised slot } slot r s).2, []⟩ := rfl

theorem exec_issue {h : Header} {f : IssueForm} {s : State} {x : Reply} (ha : s.admits h .issue)
    (hr : issueTicket h.client.toNat h.tag f s.hall = x) (quiet : x.notices = []) :
    exec (.issue h f) s = .next (s.answered .issue h x.code x.body x.notices x.hall) :=
  exec_reply ha ⟨rfl, rfl⟩ hr rfl rfl (by simp [quiet]) (by decide)

/-- Settles O45: by tool or by class, served by what the chain holds, or refused by the first check that fails. -/
theorem issuePromisesOrQueues : Obligations.IssuePromisesOrQueues := by
  constructor
  · intro h f n cls c s ha free hc grades life dest ticket met promised
    refine ⟨fun slot r byTool holds rcls ready online => ?_, fun byTool target low high => ?_⟩
    · have range : issueInRange f s.hall = true :=
        issueInRange_iff.mpr ⟨fun _ => ⟨holds.1, holds.2.1⟩, by simp [byTool], grades, life, dest⟩
      have issued := issueTicket_byTool (client := h.client.toNat) (tag := h.tag) range byTool
      rw [issueByTool_promises (findTool_of_holds holds) free ready online, issuedTicket_eq (c := c) (rcls ▸ hc), rcls,
        answerServed_promiseNew] at issued
      exact exec_issue ha issued rfl
    · subst target
      have range : issueInRange f s.hall = true :=
        issueInRange_iff.mpr ⟨by simp [byTool], fun _ => ⟨low, high⟩, grades, life, dest⟩
      have filled : issuedTicket h.client.toNat h.tag f f.target.toNat none s.hall = ticket := issuedTicket_eq hc
      have issued := issueTicket_byClass (client := h.client.toNat) (tag := h.tag) range byTool
      rw [issueByClass_serves hc free, filled] at issued
      constructor
      · intro before slot after r online chain hr first passed
        rw [serveByClass_promise online chain hr (meets_iff.mpr first) fun x hx u hu =>
          meets_eq_false_iff.mpr (passed x hx u hu), answerServed_promiseNew] at issued
        exact exec_issue ha issued rfl
      · intro unserved tickets
        rw [serveByClass_wait (unserved.imp id fun unmet x hx u hu => meets_eq_false_iff.mpr (unmet x hx u hu)),
          letWait_eq] at issued
        obtain ⟨before, after, queue, ahead, next, placed⟩ :=
          insertByBand_split tickets n f.band (s.hall.waitQueues.list f.target.toNat)
        refine ⟨before, after, queue, ahead, next, ?_⟩
        rw [← placed]
        exact exec_issue ha issued rfl
  · intro h f s ha refused inRange
    have refuses {code : Code} (hr : issueTicket h.client.toNat h.tag f s.hall = refuse code s.hall) : refused code :=
      exec_issue ha hr rfl
    refine ⟨fun out => refuses ?_, fun range byTool => ?_, fun range byTool => ?_⟩
    · exact issueTicket_range (Bool.eq_false_iff.mpr fun range => out (issueInRange_iff.mp range))
    · have issued := issueTicket_byClass (client := h.client.toNat) (tag := h.tag) (issueInRange_iff.mpr range) byTool
      exact ⟨fun undefined => refuses (issued.trans (issueByClass_undefined undefined)),
        fun c hc full => refuses (issued.trans (issueByClass_full hc full))⟩
    · have issued := issueTicket_byTool (client := h.client.toNat) (tag := h.tag) (issueInRange_iff.mpr range) byTool
      refine ⟨fun unlisted => refuses (issued.trans (issueByTool_unknown unlisted)), fun slot r holds => ?_⟩
      have found := findTool_of_holds holds
      refine ⟨fun full => refuses (issued.trans (issueByTool_full found full)), fun n free => ?_⟩
      obtain ⟨busy, offline, state⟩ := issueByTool_refuses (client := h.client.toNat) (tag := h.tag) found free
      exact ⟨fun gauging => refuses (issued.trans (busy gauging)),
        fun idle away => refuses (issued.trans (offline idle away)),
        fun idle online ready => refuses (issued.trans (state idle online ready))⟩

end Sys2Proof.Machine

/-! ## CANCEL, and how a channel moves on (R87, R98, R99, R112, R116) -/

namespace Sys2Proof.Machine

/-! ### The end of a cycle -/

theorem endCycle_eq (n : Nat) (c : Fin 16) (s : Hall) : endCycle n c s = s.setChannel c { s.channel c with
    queue := (s.channel c).queue.filter fun x => x != n, timer := none } := by
  simp [endCycle, leaveChannelQueue]

theorem filter_head {n : Nat} {rest : List Nat} (fresh : n ∉ rest) : (n :: rest).filter (fun x => x != n) = rest := by
  rw [List.filter_cons, if_neg (by simp)]
  exact filter_ne_of_not_mem fresh

/-- The head of a channel's queue ends its cycle. -/
theorem endCycle_head {n : Nat} {rest : List Nat} {c : Fin 16} {s : Hall} {x : Channel} (hx : s.channel c = x)
    (queue : x.queue = n :: rest) (fresh : n ∉ rest) :
    endCycle n c s = s.setChannel c { x with queue := rest, timer := none } := by
  rw [endCycle_eq, hx, queue, filter_head fresh]

/-- R87's condition on the channels. -/
theorem settled_iff {x : ChannelState} : x.settled = true ↔ x = .idle ∨ x = .off ∨ x = .forced := by
  cases x <;> simp [ChannelState.settled]

theorem allSettled_iff {s : Hall} :
    allSettled s = true ↔ ∀ c, (s.channel c).state = .idle ∨ (s.channel c).state = .off ∨
      (s.channel c).state = .forced := by
  simp only [← settled_iff]
  unfold allSettled
  rw [List.all_eq_true]
  constructor
  · exact fun all c => all _ (Vector.mem_toList_iff.mpr (Vector.getElem_mem c.isLt))
  · intro each x hx
    obtain ⟨i, hi, rfl⟩ := Vector.getElem_of_mem (Vector.mem_toList_iff.mp hx)
    exact each ⟨i, hi⟩

theorem drainCheck_drained {s : Hall} (draining : s.mode = .draining)
    (settled : ∀ c, (s.channel c).state = .idle ∨ (s.channel c).state = .off ∨ (s.channel c).state = .forced) :
    drainCheck s = { s with mode := .offline } := by
  unfold drainCheck
  rw [draining]
  exact if_pos (allSettled_iff.mpr settled)

theorem drainCheck_unsettled {s : Hall}
    (unsettled : ¬∀ c, (s.channel c).state = .idle ∨ (s.channel c).state = .off ∨ (s.channel c).state = .forced) :
    drainCheck s = s := by
  unfold drainCheck
  split
  · exact if_neg fun settled => unsettled (allSettled_iff.mp settled)
  · rfl

section MoveOn

variable {c : Fin 16} {s : Hall} {x : Channel}

theorem moveOn_setChannel (c : Fin 16) (s : Hall) (x : Channel) : moveOn c (s.setChannel c x) =
    drainCheck (startCycle c (s.setChannel c { x with state := .idle, timer := none })) := by
  unfold moveOn
  rw [setChannel_channel, setChannel_setChannel]

/-- The channel goes IDLE, with no ticket behind the head that left, or with the mode OFFLINE. -/
theorem moveOn_idle (stays : x.queue = [] ∨ s.mode = .offline) (mode : s.mode ≠ .draining) :
    moveOn c (s.setChannel c x) = s.setChannel c { x with state := .idle, timer := none } := by
  rw [moveOn_setChannel, startCycle_none, drainCheck_none (by exact mode)]
  rw [setChannel_channel]
  rcases stays with empty | offline
  · exact .inr (.inr empty)
  · exact .inr (.inl (by rw [setChannel_mode, offline]; decide))

/-- The channel was the last to settle: it goes IDLE and the drain ends. -/
theorem moveOn_drained (draining : s.mode = .draining)
    (others : ∀ d, d ≠ c → (s.channel d).state = .idle ∨ (s.channel d).state = .off ∨ (s.channel d).state = .forced) :
    moveOn c (s.setChannel c x) =
      { s.setChannel c { x with state := .idle, timer := none } with mode := .offline } := by
  rw [moveOn_setChannel, startCycle_none (.inr (.inl (by rw [setChannel_mode, draining]; decide)))]
  refine drainCheck_drained draining fun d => ?_
  by_cases e : d = c
  · subst e
    rw [setChannel_channel]
    exact .inl rfl
  · rw [setChannel_channel_ne _ _ _ _ (Ne.symm e)]
    exact others d e

/-- The next ticket of the queue heads a cycle of its own. -/
theorem moveOn_next {n slot : Nat} {rest : List Nat} {t : Ticket} (queue : x.queue = n :: rest)
    (online : s.mode = .online) (ht : s.tickets.get n = some t) (status : t.status = .promised slot) :
    moveOn c (s.setChannel c x) = { s.setChannel c { x with state := .released, timer := some x.openWindow } with
      tickets := s.tickets.put n { t with status := .released slot } } := by
  have started := startCycle_head (c := c) (s := s.setChannel c { x with state := .idle, timer := none }) (n := n)
    (rest := rest) (t := t) (by rw [setChannel_channel]) online (by rw [setChannel_channel]; exact queue) ht
  rw [moveOn_setChannel, started, drainCheck_none (by simp [online]), release_of_promised status, setChannel_channel]
  simp [Hall.setChannel]

end MoveOn

/-- A PROMISED record returns to READY, its opened mark cleared, and no ticket takes it. -/
theorem returnPromise_arrive {s : Hall} {slot : Nat} {r : Record} (hr : s.records.get slot = some r)
    (noTaker : s.mode ≠ .online ∨ s.waitQueues.list r.cls = []) :
    returnPromise slot s = ⟨arrive slot { r with opened := false } true s, [], none⟩ :=
  returnPromise_keep (r := r) hr noTaker

/-! ### CANCEL -/

theorem channelHolding_eq_none {n : Nat} {s : Hall} (h : ∀ c, n ∉ (s.channel c).queue) : channelHolding n s = none :=
  List.find?_eq_none.mpr fun c _ => by simpa using h c

theorem channelHolding_eq_some {n : Nat} {s : Hall} {c : Fin 16} (hc : n ∈ (s.channel c).queue)
    (others : ∀ d, d ≠ c → n ∉ (s.channel d).queue) : channelHolding n s = some c := by
  cases found : channelHolding n s with
  | none => exact absurd hc (channelHolding_none found c)
  | some d =>
    by_contra ne
    exact others d (fun e => ne (congrArg some e)) (channelHolding_some found)

theorem toolIn_of_get {slot : Nat} {r : Record} {s : Hall} (hr : s.records.get slot = some r) : toolIn slot s = r.tool := by
  simp [toolIn, hr]

/-- A CANCEL that passes the checks of R98. -/
theorem cancelByNumber_passes {client : Nat} {ticket : Word} {tag : Option Word} {t : Ticket} {s : Hall}
    (range : ticket.toNat ≤ 127) (ht : s.tickets.get ticket.toNat = some t) (tagged : tag = none ∨ tag = some t.tag)
    (may : client = t.requester ∨ (s.client client).role = .toolroom) :
    cancelByNumber client ticket tag s = cancelTicket client ticket.toNat t s := by
  have tags : tagMatches t tag = true := by rcases tagged with rfl | rfl <;> simp [tagMatches]
  have sender : (decide (client = t.requester) || decide ((s.client client).role = .toolroom)) = true := by
    simpa using may
  unfold cancelByNumber Config.tickets
  rw [if_neg (by omega), ht]
  dsimp only
  rw [tags, sender]
  rfl

section Cancel

variable {client n slot : Nat} {t : Ticket} {r : Record} {s : Hall}

theorem cancelTicket_waiting (status : t.status = .waiting) : cancelTicket client n t s =
    ⟨(leaveWaitQueue n t.cls s).freeTicket n, .ok, [1, 0, 0, 0], cancelledNotice client n t⟩ := by
  unfold cancelTicket
  rw [status]
  rfl

theorem cancelTicket_opened (status : t.status = .opened slot) : cancelTicket client n t s = refuse .tooLate s := by
  unfold cancelTicket
  rw [status]

theorem cancelPromisedReply_untaken (client n : Nat) (t : Ticket) (tool : Nat) (x hall : Hall) :
    cancelPromisedReply client n t tool ⟨x, [], none⟩ hall =
      ⟨hall, .ok, [natWord t.status.code, natWord tool, 2, 0], cancelledNotice client n t⟩ := by
  unfold cancelPromisedReply
  rw [List.append_nil]
  rfl

section Untaken

variable (hr : s.records.get slot = some r) (noTaker : s.mode ≠ .online ∨ s.waitQueues.list r.cls = [])
include hr noTaker

/-- A PROMISED ticket of the handover list, where no ticket takes its record. -/
theorem cancelTicket_handed (status : t.status = .promised slot) (out : ∀ c, n ∉ (s.channel c).queue) :
    cancelTicket client n t s =
      ⟨arrive slot { r with opened := false } true { s.freeTicket n with handover := s.handover.filter fun x => x != n },
        .ok, [2, natWord r.tool, 2, 0], cancelledNotice client n t⟩ := by
  unfold cancelTicket
  simp only [status, channelHolding_eq_none out]
  rw [returnPromise_arrive (r := r) (by exact hr) (by exact noTaker), cancelPromisedReply_untaken, toolIn_of_get hr, status]
  rfl

variable {c : Fin 16} (hc : n ∈ (s.channel c).queue) (others : ∀ d, d ≠ c → n ∉ (s.channel d).queue)
include hc others

/-- A PROMISED ticket of a channel queue, where no ticket takes its record. -/
theorem cancelTicket_queued (status : t.status = .promised slot) :
    cancelTicket client n t s =
      ⟨arrive slot { r with opened := false } true ((leaveChannelQueue n c s).freeTicket n),
        .ok, [2, natWord r.tool, 2, 0], cancelledNotice client n t⟩ := by
  unfold cancelTicket
  simp only [status, channelHolding_eq_some hc others]
  rw [returnPromise_arrive (r := r) (by exact hr) (by exact noTaker), cancelPromisedReply_untaken, toolIn_of_get hr, status]
  rfl

/-- The head of a drawer cycle with no ticket behind it, where no ticket takes its record. -/
theorem cancelTicket_released (status : t.status = .released slot) (alone : (s.channel c).queue = [n])
    (mode : s.mode ≠ .draining) :
    cancelTicket client n t s =
      ⟨(arrive slot { r with opened := false } true (s.freeTicket n)).setChannel c
          { s.channel c with state := .idle, timer := none, queue := [] },
        .ok, [3, natWord r.tool, 2, 0], cancelledNotice client n t⟩ := by
  have ended := endCycle_head (c := c) (s := s) rfl alone List.not_mem_nil
  have moved := moveOn_idle (c := c) (s := arrive slot { r with opened := false } true (s.freeTicket n))
    (x := { s.channel c with queue := [], timer := none }) (.inl rfl) mode
  unfold cancelTicket
  simp only [status, channelHolding_eq_some hc others]
  rw [ended, returnPromise_arrive (r := r) (by exact hr) (by exact noTaker), cancelPromisedReply_untaken, toolIn_of_get hr, status]
  exact congrArg (Reply.mk · _ _ _) moved

end Untaken

end Cancel

/-- Settles O46, by the ticket's state and the collection it stands in. -/
theorem cancelFreesTicketAndReturnsTool : Obligations.CancelFreesTicketAndReturnsTool := by
  intro h ticket tag t s ha range ht tagged may n told
  have passes := cancelByNumber_passes (client := h.client.toNat) range ht tagged may
  have heard : told.length ≤ 3 := by
    simp only [told]
    split <;> simp
  have answers {code : Code} {body : List Word} {hall : Hall}
      (hr : cancelTicket h.client.toNat n t s.hall = ⟨hall, code, body, told⟩) :
      exec (.cancel h ticket tag) s = .next (s.answered .cancel h code body told hall) :=
    exec_reply ha ⟨rfl, rfl⟩ (passes.trans hr) rfl rfl heard (by decide)
  refine ⟨fun status => answers (cancelTicket_waiting status), fun slot r hr noTaker => ?_,
    fun slot status => exec_quiet ha ⟨rfl, rfl⟩ (passes.trans (cancelTicket_opened status)) rfl rfl (by decide)⟩
  refine ⟨fun status out => answers (cancelTicket_handed hr noTaker status out), fun c hc others => ⟨fun status => ?_,
    fun status alone mode => ?_⟩⟩
  · exact answers (cancelTicket_queued hr noTaker hc others status)
  · exact answers (cancelTicket_released hr noTaker hc others status alone mode)

end Sys2Proof.Machine

/-! ## RETURN, the closing of a drawer, the expiries of its windows (R100 to R102, R107, R113 to R115) -/

namespace Sys2Proof.Machine

/-! ### RETURN -/

/-- A measurement that is not fresh, in R102's words. -/
theorem fresh_eq_false_iff {r : Record} {g : Geometry} {m : Measurement} {validity : Nat}
    (measured : r.measured = some (g, m)) : fresh validity r = false ↔ 0 < validity ∧ validity ≤ m.age := by
  unfold fresh
  rw [measured]
  simp [Nat.pos_iff_ne_zero]

theorem validityOf_eq {cls : Nat} {c : ClassEntry} {s : Hall} (hc : s.classes.get cls = some c) :
    validityOf cls s = c.policy.validity := by
  simp [validityOf, hc]

theorem returnToCrib_out {tool : Word} {loc : CribLoc} {location : Location} {slot : Nat} {r : Record} {s : Hall}
    (hl : cribLocation loc = some location) (found : s.lookUpTool tool = .ok (slot, r)) (out : r.status = .out) :
    returnToCrib tool loc s = returnRecord slot r location s := by
  simp [returnToCrib, hl, found, out]

section Return

variable {slot : Nat} {r : Record} {location : Location} {c : ClassEntry} {s : Hall}

theorem returnRecord_worn (worn : r.life = 0) : returnRecord slot r location s = accept [7, 0]
    (s.putRecord slot { r with
      location := location, outAge := 0, overdue := false, dest := none, status := .held .worn }) :=
  if_pos worn

theorem returnRecord_stale (alive : 0 < r.life) (measured : r.measured.isSome = true)
    (stale : fresh (validityOf r.cls s) r = false) (hc : s.classes.get r.cls = some c) :
    returnRecord slot r location s = ⟨{ s with
      records := s.records.put slot { r with
        location := location, outAge := 0, overdue := false, dest := none, status := .held .stale }
      classes := s.classes.put r.cls (fallEntry c), flags := fallFlags c s.flags }, .ok, [7, 0],
        fallNotices r.cls c⟩ := by
  have judged : (!fresh (validityOf r.cls s) r && r.measured.isSome) = true := by simp [stale, measured]
  unfold returnRecord
  refine (if_neg (by simp only; omega)).trans ((if_pos judged).trans ?_)
  rw [usableFall_eq (c := c) (by exact hc)]
  rfl

theorem returnRecord_ready (alive : 0 < r.life) (isFresh : fresh (validityOf r.cls s) r = true)
    (noTaker : s.mode ≠ .online ∨ s.waitQueues.list r.cls = []) :
    returnRecord slot r location s =
      ⟨arrive slot { r with location := location, outAge := 0, overdue := false, dest := none } true s, .ok, [2, 0],
        []⟩ := by
  have judged : ¬(!fresh (validityOf r.cls s) r && r.measured.isSome) = true := by simp [isFresh]
  have kept := enterReady_keep (slot := slot) (s := s)
    (r := { r with location := location, outAge := 0, overdue := false, dest := none }) noTaker
  unfold returnRecord
  refine (if_neg (by simp only; omega)).trans ((if_neg judged).trans ?_)
  rw [kept]
  rfl

end Return

/-- Settles O47, by the judgement of R102. -/
theorem returnJudgesTheTool : Obligations.ReturnJudgesTheTool := by
  intro h tool loc location slot r g m c s ha hl holds out measured hc back worn stale ready isStale
  have returned := returnToCrib_out hl (lookUpTool_of_holds holds) out
  have judged : fresh (validityOf r.cls s.hall) r = false ↔ isStale := by
    rw [validityOf_eq hc]
    exact fresh_eq_false_iff measured
  refine ⟨fun dead => ?_, fun alive old => ?_, fun alive young noTaker => ?_⟩
  · exact exec_quiet ha ⟨rfl, rfl⟩ (returned.trans (returnRecord_worn dead)) rfl rfl (by decide)
  · exact exec_reply ha ⟨rfl, rfl⟩
      (returned.trans (returnRecord_stale alive (by rw [measured]; rfl) (judged.mpr old) hc)) rfl rfl
      ((fallNotices_length _ _).trans (by decide)) (by decide)
  · have isFresh : fresh (validityOf r.cls s.hall) r = true :=
      Bool.eq_true_of_not_eq_false fun old => young (judged.mp old)
    exact exec_quiet ha ⟨rfl, rfl⟩ (returned.trans (returnRecord_ready alive isFresh noTaker)) rfl rfl (by decide)

/-! ### Events that send nothing, events whose notices find a place -/

theorem takeEvent_nothing {event : Hall → Hall × List Notice} {s : State} (h : event s.hall = (s.hall, [])) :
    drivePins (takeEvent event s) = drivePins s := by
  unfold takeEvent
  rw [h]
  rfl

theorem takeEvent_quiet {event : Hall → Hall × List Notice} {s : State} {hall : Hall}
    (h : event s.hall = (hall, [])) : drivePins (takeEvent event s) = s.eventTaken [] hall := by
  unfold takeEvent State.eventTaken
  rw [h]
  simp only [List.map_nil, List.append_nil]
  rfl

theorem takeEvent_placed {event : Hall → Hall × List Notice} {s : State} {hall : Hall} {notices : List Notice}
    (h : event s.hall = (hall, notices)) (room : s.roomFor notices.length) :
    drivePins (takeEvent event s) = s.eventTaken notices hall := by
  have taken := drivePins_takeEvent event s (by rw [h]; exact room)
  rwa [h] at taken

/-! ### The closing of a drawer -/

section Closed

variable {c : Fin 16} {s : Hall}

theorem closedEvent_seen (seen : (s.channel c).filter = .shut) : closedEvent c s = (s, []) := by
  unfold closedEvent
  rw [seen]

/-- A channel whose drawer is shut. -/
def Channel.shut (x : Channel) : Channel := { x with filter := .shut, level := .shut }

theorem closedEvent_level (new : (s.channel c).filter = .open) (notOpened : (s.channel c).state ≠ .opened)
    (notAjar : (s.channel c).state ≠ .ajar) : closedEvent c s = (s.setChannel c (s.channel c).shut, []) := by
  unfold closedEvent
  rw [new]
  dsimp only
  rw [setChannel_channel]
  dsimp only
  split
  · exact absurd ‹_› notOpened
  · exact absurd ‹_› notAjar
  all_goals rfl

theorem closedEvent_takeEnds (new : (s.channel c).filter = .open)
    (cycle : (s.channel c).state = .opened ∨ (s.channel c).state = .ajar) :
    closedEvent c s = takeEnds c (s.setChannel c (s.channel c).shut) := by
  unfold closedEvent
  rw [new]
  dsimp only
  rw [setChannel_channel]
  dsimp only
  split
  · rfl
  · rfl
  all_goals
    rename_i state
    simp [state] at cycle

end Closed

/-- A ticket completes: it is free, its record is OUT, its class counts, and ISSUED goes to a requester that asked. -/
theorem complete_issued {n slot : Nat} {t : Ticket} {r : Record} {k : ClassEntry} {s : Hall}
    (hs : t.status.slot = some slot) (hr : s.records.get slot = some r) (hk : s.classes.get r.cls = some k) :
    complete n t s =
      ({ s with
          tickets := s.tickets.del n
          records := s.records.put slot
            { r with status := .out, location := .none, dest := t.dest, outAge := 0, opened := false }
          classes := s.classes.put r.cls { k with issues := k.issues.bump } },
        if t.notify then [⟨.issued, BitVec.ofNat 8 t.requester, [natWord n, t.tag, natWord r.tool, natWord slot,
          natWord (t.dest.getD 0), natWord r.grade, natWord r.life]⟩] else []) := by
  unfold complete countIssue
  simp only [hs, hr, putRecord_classes, hk]
  rfl

theorem takeEnds_head {n : Nat} {rest : List Nat} {t : Ticket} {c : Fin 16} {s : Hall}
    (queue : (s.channel c).queue = n :: rest) (ht : s.tickets.get n = some t) :
    takeEnds c s = (moveOn c (complete n t (endCycle n c s)).1, (complete n t (endCycle n c s)).2) := by
  unfold takeEnds
  simp only [queue, ht]

/-- Settles O52, by the channel's state and, where a cycle ends, by where the channel moves. -/
theorem closedCompletesTheCycle : Obligations.ClosedCompletesTheCycle := by
  intro c s x y
  refine ⟨fun seen => ?_, fun new notOpened notAjar => ?_, ?_⟩
  · exact congrArg Host.Outcome.next (takeEvent_nothing (closedEvent_seen seen))
  · exact congrArg Host.Outcome.next (takeEvent_quiet (closedEvent_level new notOpened notAjar))
  intro n rest t slot r k new cycle queue fresh ht status hr hk room issued done
  let gone : Channel := { y with queue := rest, timer := none }
  have own : (s.hall.setChannel c y).channel c = y := setChannel_channel ..
  have ended : endCycle n c (s.hall.setChannel c y) = s.hall.setChannel c gone :=
    (endCycle_head own queue fresh).trans (setChannel_setChannel ..)
  have completed : complete n t (s.hall.setChannel c gone) = (done.setChannel c gone, issued) :=
    complete_issued (by rw [status]; rfl) hr hk
  have head : ((s.hall.setChannel c y).channel c).queue = n :: rest := own.symm ▸ queue
  have ends : takeEnds c (s.hall.setChannel c y) = (moveOn c (done.setChannel c gone), issued) := by
    rw [takeEnds_head (t := t) head ht, ended, completed]
  have closed : closedEvent c s.hall = (moveOn c (done.setChannel c gone), issued) :=
    (closedEvent_takeEnds new cycle).trans ends
  have told : s.roomFor issued.length := by
    have : issued.length ≤ 1 := by simp only [issued]; split <;> simp
    simp only [State.roomFor] at room ⊢
    omega
  have taken {hall : Hall} (moves : moveOn c (done.setChannel c gone) = hall) :
      exec (.closed c) s = .next (s.eventTaken issued hall) := by
    rw [moves] at closed
    exact congrArg Host.Outcome.next (takeEvent_placed closed told)
  refine ⟨fun stays mode => taken (moveOn_idle stays mode),
    fun draining others => taken (moveOn_drained draining others), ?_⟩
  intro n' rest' t' slot' next online ht' promised
  have still : done.tickets.get n' = some t' := by
    rw [show done.tickets = s.hall.tickets.del n from rfl, get_del, if_neg, ht']
    rintro rfl
    exact fresh (next ▸ List.mem_cons_self)
  exact taken (moveOn_next next online still promised)

/-! ### The expiries -/

theorem openExpiry_other {c : Fin 16} {s : Hall} (other : (s.channel c).state ≠ .released) :
    openExpiry c s = (s, []) := by
  unfold openExpiry
  split
  · exact absurd ‹_› other
  · rfl

theorem takeExpiry_other {c : Fin 16} {s : Hall} (other : (s.channel c).state ≠ .opened) :
    takeExpiry c s = (s, []) := by
  unfold takeExpiry
  dsimp only
  split
  · exact absurd ‹_› other
  · rfl

theorem openExpiry_head {n slot : Nat} {rest : List Nat} {t : Ticket} {c : Fin 16} {s : Hall}
    (state : (s.channel c).state = .released) (queue : (s.channel c).queue = n :: rest)
    (ht : s.tickets.get n = some t) (hs : t.status.slot = some slot) :
    openExpiry c s =
      (moveOn c (lapse n t slot c (endCycle n c s)).1, (lapse n t slot c (endCycle n c s)).2) := by
  unfold openExpiry
  simp only [state, queue, ht, hs]

/-- A lapse after which no ticket takes the record. -/
theorem lapse_untaken {n slot : Nat} {t : Ticket} {r : Record} {c : Fin 16} {s : Hall}
    (hr : s.records.get slot = some r) (noTaker : s.mode ≠ .online ∨ s.waitQueues.list r.cls = []) :
    lapse n t slot c s = (arrive slot { r with opened := false } true (s.freeTicket n),
      [⟨.notCollected, BitVec.ofNat 8 t.requester, [natWord n, t.tag, natWord r.tool, natWord c.val]⟩]) := by
  unfold lapse
  rw [returnPromise_arrive (r := r) (by exact hr) (by exact noTaker), toolIn_of_get hr]
  rfl

theorem ticketRecord_eq {n slot : Nat} {t : Ticket} {r : Record} {s : Hall} (ht : s.tickets.get n = some t)
    (hs : t.status.slot = some slot) (hr : s.records.get slot = some r) : ticketRecord n s = some r := by
  simp [ticketRecord, ht, hs, hr]

theorem takeExpiry_head {n slot : Nat} {rest : List Nat} {t : Ticket} {r : Record} {c : Fin 16} {s : Hall}
    (state : (s.channel c).state = .opened) (queue : (s.channel c).queue = n :: rest)
    (ht : s.tickets.get n = some t) (hs : t.status.slot = some slot) (hr : s.records.get slot = some r) :
    takeExpiry c s = (setFlag .channelFault (s.setChannel c { s.channel c with state := .ajar, timer := none }),
      [⟨.channelFault, 255#8, [1, natWord c.val, natWord n, natWord r.tool]⟩]) := by
  unfold takeExpiry
  simp only [state, queue, List.head?_cons, Option.getD_some, ticketRecord_eq ht hs hr, Option.map_some]
  rfl

/-- Settles O53, by the window and the channel's state. -/
theorem windowExpiriesEndOrMarkTheCycle : Obligations.WindowExpiriesEndOrMarkTheCycle := by
  intro c s x
  refine ⟨fun other => ?_, fun other => ?_, ?_, ?_⟩
  · exact congrArg Host.Outcome.next (takeEvent_nothing (openExpiry_other other))
  · exact congrArg Host.Outcome.next (takeEvent_nothing (takeExpiry_other other))
  · intro n t slot r state queue ht status hr noTaker mode room back
    have expired := openExpiry_head state queue ht (slot := slot) (by rw [status]; rfl)
    rw [endCycle_head (x := x) rfl queue List.not_mem_nil,
      lapse_untaken (r := r) (by exact hr) (by exact noTaker)] at expired
    have moved := moveOn_idle (c := c) (s := arrive slot { r with opened := false } true (s.hall.freeTicket n))
      (x := { x with queue := [], timer := none }) (.inl rfl) mode
    exact congrArg Host.Outcome.next
      (takeEvent_placed (expired.trans (congrArg (Prod.mk · _) moved)) room)
  · intro n rest t slot r state queue ht status hr room
    have expired := takeExpiry_head state queue ht (slot := slot) (by rw [status]; rfl) hr
    exact congrArg Host.Outcome.next (takeEvent_placed expired room)

end Sys2Proof.Machine

/-! ## USAGE (R97, R166 to R174) -/

namespace Sys2Proof.Machine

/-! ### The charge -/

theorem natWord_toNat (w : Word) : natWord w.toNat = w := BitVec.ofNat_toNat ..

theorem reportUsage_charges {client entry severity : Nat} {tag pocket amount : Word} {p : Fin 16} {pockets : Nat}
    {offset : Int} {b : Binding} {r : Record} {s : Hall} (low : 1 ≤ pocket.toNat) (high : pocket.toNat ≤ 240)
    (small : amount.toNat ≤ 65535) (machine : s.client client = .machine p pockets severity offset)
    (found : findBinding client pocket.toNat s.bindings = some (entry, b)) (hr : s.records.get b.slot = some r) :
    reportUsage client tag pocket amount s =
      chargeRecord client tag pocket.toNat b.slot r ((amount.toNat * severity + 63) / 64) s := by
  unfold reportUsage
  rw [if_neg (not_not.mpr ⟨low, high⟩), if_neg (by omega), found]
  dsimp only
  rw [hr, machine]
  rfl

section Charge

variable {client pocket slot consumed : Nat} {tag : Word} {r : Record} {c : ClassEntry} {s : Hall}

theorem chargeRecord_dead (dead : r.life = 0) :
    chargeRecord client tag pocket slot r consumed s = accept (usageBody pocket slot r consumed) s :=
  if_pos dead

theorem chargeRecord_left (left : consumed < r.life) :
    chargeRecord client tag pocket slot r consumed s = chargeLife client tag pocket slot r consumed s := by
  unfold chargeRecord
  rw [if_neg (by omega), if_neg (by omega)]

theorem chargeRecord_ends (alive : 0 < r.life) (ends : r.life ≤ consumed) :
    chargeRecord client tag pocket slot r consumed s = endLife client tag pocket slot r consumed s := by
  unfold chargeRecord
  rw [if_neg (by omega), if_pos ends]

variable (hc : s.classes.get r.cls = some c)
include hc

theorem chargeLife_plain
    (silent : ¬(0 < c.policy.warnLevel ∧ r.life - consumed ≤ c.policy.warnLevel ∧ r.warned = false)) :
    chargeLife client tag pocket slot r consumed s =
      accept (usageBody pocket slot { r with life := r.life - consumed } consumed)
        (s.putRecord slot { r with life := r.life - consumed }) := by
  unfold chargeLife
  rw [hc]
  exact if_neg silent

theorem chargeLife_warns
    (warns : 0 < c.policy.warnLevel ∧ r.life - consumed ≤ c.policy.warnLevel ∧ r.warned = false) :
    chargeLife client tag pocket slot r consumed s =
      ⟨s.putRecord slot { r with life := r.life - consumed, warned := true }, .ok,
        usageBody pocket slot { r with life := r.life - consumed, warned := true } consumed,
        [lifeWarnNotice client pocket slot { r with life := r.life - consumed, warned := true } c.policy.warnLevel
          tag]⟩ := by
  unfold chargeLife
  rw [hc]
  exact if_pos warns

end Charge

/-! ### The end of a tool's life -/

/-- A record at the end of its life (R170). -/
def Record.spent (r : Record) : Record := { r with life := 0, warned := true, ended := true }

/-- The hall after a tool of a defined class has ended, before its replacement (R170). -/
def spentHall (slot : Nat) (r : Record) (c : ClassEntry) (s : Hall) : Hall :=
  { s with
    records := s.records.put slot r.spent
    classes := s.classes.put r.cls (fallEntry c)
    flags := fallFlags c s.flags }

theorem endLife_eq {client pocket slot consumed : Nat} {tag : Word} {r : Record} {c : ClassEntry} {s : Hall}
    (hc : s.classes.get r.cls = some c) :
    endLife client tag pocket slot r consumed s =
      let v := replaceIf c.policy.autoReplace r.cls client tag (spentHall slot r c s)
      ⟨v.1, .ok, usageBody pocket slot r.spent consumed,
        lifeEndNotice client pocket slot r.spent tag v.2 :: fallNotices r.cls c⟩ := by
  unfold endLife
  rw [hc]
  dsimp only
  rw [usableFall_eq (c := c) (by exact hc)]
  rfl

section Replace

variable {cls client n : Nat} {tag : Word} {s : Hall}

theorem replaceIf_off : replaceIf false cls client tag s = (s, none) := rfl

theorem replaceIf_failed (full : s.tickets.lowestFree 128 = none) :
    replaceIf true cls client tag s = (setFlag .replaceFailed s, some .failed) := by
  unfold replaceIf replace
  rw [show s.tickets.lowestFree Config.tickets = none from full]
  rfl

variable (free : s.tickets.lowestFree 128 = some n)
include free

theorem replaceIf_queued
    (waits : serveByClass n (replacementTicket cls client tag s) s = letWait n (replacementTicket cls client tag s) s) :
    replaceIf true cls client tag s = ((letWait n (replacementTicket cls client tag s) s).hall, some (.queued n)) := by
  unfold replaceIf replace
  rw [show s.tickets.lowestFree Config.tickets = some n from free]
  dsimp only
  rw [waits]
  rfl

theorem replaceIf_promised {slot : Nat} {r : Record}
    (serves : serveByClass n (replacementTicket cls client tag s) s =
      promiseNew n (replacementTicket cls client tag s) slot r s) :
    replaceIf true cls client tag s =
      ((promiseNew n (replacementTicket cls client tag s) slot r s).hall, some (.promised n slot r)) := by
  unfold replaceIf replace
  rw [show s.tickets.lowestFree Config.tickets = some n from free]
  dsimp only
  rw [serves]
  rfl

end Replace

/-- The ticket of a replacement in a class whose top grade is known. -/
theorem replacementTicket_eq {cls client : Nat} {tag : Word} {c : ClassEntry} {s : Hall}
    (hc : s.classes.get cls = some c) :
    replacementTicket cls client tag s =
      { status := .waiting, requester := client, tag := tag, origin := .auto, band := .stop, cls := cls, lowGrade := 0,
        highGrade := c.shape.topGrade, life := 1, specific := none, dest := some client, notify := true, age := 0 } := by
  have top : topGradeOf cls s = c.shape.topGrade := by simp [topGradeOf, hc]
  unfold replacementTicket
  rw [top]

/-- A request's client number as a notice's client. -/
theorem noticeTo_client (h : Header) (kind : NoticeKind) (body : List Word) :
    noticeTo h.client.toNat kind body = ⟨kind, h.client, body⟩ :=
  congrArg (Notice.mk kind · body) (BitVec.ofNat_toNat ..)

theorem lifeEndNotice_client (h : Header) (pocket : Word) (slot : Nat) (r : Record) (tag : Word)
    (outcome : Option Replacement) :
    lifeEndNotice h.client.toNat pocket.toNat slot r tag outcome =
      ⟨.lifeEnd, h.client, [pocket, natWord r.tool, natWord slot, natWord r.cls, tag] ++ outcomeWords outcome⟩ := by
  unfold lifeEndNotice
  rw [noticeTo_client, natWord_toNat]

theorem lifeWarnNotice_client (h : Header) (pocket : Word) (slot : Nat) (r : Record) (warnLevel : Nat) (tag : Word) :
    lifeWarnNotice h.client.toNat pocket.toNat slot r warnLevel tag = ⟨.lifeWarn, h.client,
      [pocket, natWord r.tool, natWord slot, natWord r.cls, natWord r.life, natWord warnLevel, tag]⟩ := by
  unfold lifeWarnNotice
  rw [noticeTo_client, natWord_toNat]

/-- Settles O59, by what the charge leaves and by what the replacement finds. -/
theorem usageChargesAndEndsLife : Obligations.UsageChargesAndEndsLife := by
  intro h pocket amount p pockets severity entry offset b r c s ha low high small machine found hr hc consumed body warns
    ended fallen lifeEnd
  have charged := reportUsage_charges (tag := h.tag) low high small machine found hr
  have spoken (x : Record) : usageBody pocket.toNat b.slot x consumed = body x := by
    simp only [usageBody, natWord_toNat, body]
  have answers {x : Reply} (hx : chargeRecord h.client.toNat h.tag pocket.toNat b.slot r consumed s.hall = x)
      (room : x.notices.length ≤ 3) :
      exec (.usage h pocket amount) s = .next (s.answered .usage h x.code x.body x.notices x.hall) :=
    exec_reply ha ⟨rfl, rfl⟩ (charged.trans hx) rfl rfl room (by decide)
  have ends {auto : Bool} {hall : Hall} {outcome : Option Replacement} (alive : 0 < r.life) (used : r.life ≤ consumed)
      (choice : c.policy.autoReplace = auto)
      (replaced : replaceIf auto r.cls h.client.toNat h.tag fallen = (hall, outcome)) :
      exec (.usage h pocket amount) s = .next (s.answered .usage h .ok (body ended)
        (lifeEnd (outcomeWords outcome) :: fallNotices r.cls c) hall) := by
    have ending := (chargeRecord_ends alive used).trans (endLife_eq (client := h.client.toNat) (pocket := pocket.toNat)
      (slot := b.slot) (consumed := consumed) (tag := h.tag) hc)
    rw [show spentHall b.slot r c s.hall = fallen from rfl, choice, replaced] at ending
    simp only [lifeEndNotice_client, spoken] at ending
    exact answers ending (Nat.succ_le_succ ((fallNotices_length r.cls c).trans (show 1 ≤ 2 by decide)))
  have defined : fallen.classes.get r.cls = some (fallEntry c) := get_put_self ..
  refine ⟨fun dead => ?_, fun left silent => ?_, fun left loud => ?_, fun alive used off => ?_,
    fun alive used on full => ?_, ?_⟩
  · have dead := chargeRecord_dead (client := h.client.toNat) (pocket := pocket.toNat) (slot := b.slot)
      (consumed := consumed) (tag := h.tag) (s := s.hall) dead
    rw [spoken] at dead
    exact answers dead (Nat.zero_le _)
  · have plain := (chargeRecord_left left).trans (chargeLife_plain (client := h.client.toNat) (pocket := pocket.toNat)
      (slot := b.slot) (tag := h.tag) hc silent)
    rw [spoken] at plain
    exact answers plain (Nat.zero_le _)
  · have warned := (chargeRecord_left left).trans (chargeLife_warns (client := h.client.toNat)
      (pocket := pocket.toNat) (slot := b.slot) (tag := h.tag) hc loud)
    rw [spoken, lifeWarnNotice_client] at warned
    exact answers warned (by simp)
  · exact ends alive used off replaceIf_off
  · exact ends alive used on (replaceIf_failed full)
  intro ticket met
  have filled : replacementTicket r.cls h.client.toNat h.tag fallen = ticket :=
    replacementTicket_eq (c := fallEntry c) defined
  refine ⟨fun n slot x before later alive used on free online chain hx first passed => ?_,
    fun n alive used on free unserved => ?_⟩
  · have meet {u : Record} : meets u ticket = true ↔ met u := by simp [meets_iff, ticket, met]
    have serves : serveByClass n ticket fallen = promiseNew n ticket slot x fallen :=
      serveByClass_promise online chain hx (meet.mpr first) fun y hy u hu =>
        Bool.eq_false_iff.mpr fun m => passed y hy u hu (meet.mp m)
    have replaced := replaceIf_promised (cls := r.cls) (client := h.client.toNat) (tag := h.tag) (s := fallen) free
      (filled ▸ serves)
    rw [filled] at replaced
    exact ends alive used on replaced
  · have waits : serveByClass n ticket fallen = letWait n ticket fallen :=
      serveByClass_wait (unserved.imp id fun empty x hx => absurd (empty ▸ hx) List.not_mem_nil)
    have replaced := replaceIf_queued (cls := r.cls) (client := h.client.toNat) (tag := h.tag) (s := fallen) free
      (filled ▸ waits)
    rw [filled, letWait_eq] at replaced
    exact ends alive used on replaced

end Sys2Proof.Machine

/-! ## SET-ISSUE-MODE (R87, R88) -/

namespace Sys2Proof.Machine

/-! ### Notices as far as the outbound queue holds them (R190) -/

theorem setFlag_twice (f : Flag) (s : Hall) : setFlag f (setFlag f s) = setFlag f s := by
  simp [setFlag, BitVec.or_assoc]

/-- Notices stand at the tail of the outbound queue as far as it holds them beside the kept place. -/
theorem placeNotices_take (notices : List Notice) (s : State) (lawful : s.roomFor 0) :
    (placeNotices notices s).port.outbound =
        (s.port.outbound ++ notices.map OutMessage.notice).take (32 - s.port.kept) ∧
      (placeNotices notices s).hall = if s.roomFor notices.length then s.hall else setFlag .overrun s.hall := by
  simp only [State.roomFor] at lawful ⊢
  induction notices generalizing s with
  | nil =>
    refine ⟨?_, (if_pos lawful).symm⟩
    rw [List.map_nil, List.append_nil, List.take_of_length_le (by omega)]
    rfl
  | cons n rest ih =>
    rw [placeNotices_cons]
    by_cases room : s.port.outbound.length + s.port.kept < 32
    · rw [placeNotice_room s n room]
      have later := ih { s with port := { s.port with outbound := s.port.outbound ++ [.notice n] } }
      simp only [Port.kept, List.length_append, List.length_cons, List.length_nil, List.append_assoc] at later room ⊢
      obtain ⟨outbound, hall⟩ := later (by omega)
      exact ⟨outbound, hall.trans (if_congr (by omega) rfl rfl)⟩
    · rw [placeNotice_full s n room]
      obtain ⟨outbound, hall⟩ := ih { s with hall := setFlag .overrun s.hall } lawful
      have full : 32 - s.port.kept = s.port.outbound.length := by omega
      have tooMany : ¬s.port.outbound.length + (n :: rest).length + s.port.kept ≤ 32 := by
        rw [List.length_cons]
        omega
      refine ⟨outbound.trans ?_, hall.trans ?_⟩
      · simp only [full, List.take_left']
      · rw [if_neg tooMany, setFlag_twice, ite_self]

/-- The completion of a request whose notices may find no place: which find one, and what OVERRUN tells. -/
theorem exec_take {i : Instr} {k : Kind} {h : Header} {s : State} {r : Reply} (ha : s.admits h k) (hf : formOk s h i)
    (hr : handle i s.hall = r) (hk : i.kind = some k) (hh : i.header = some h) :
    ∃ t : State, exec i s = .next t ∧
      t.port.outbound = (s.port.outbound ++ .response k.code h.client h.tag r.code r.body ::
        r.notices.map OutMessage.notice).take 32 ∧
      t.hall = if s.port.outbound.length + 1 + r.notices.length ≤ 32 then r.hall else setFlag .overrun r.hall := by
  subst hr
  obtain ⟨⟨-, free⟩, -⟩ := id ha
  simp only [Port.mayTake, Bool.and_eq_true, decide_eq_true_eq, Option.isNone_iff_eq_none] at free
  have places : s.port.outbound.length + 4 ≤ 32 := by
    simpa [Config.takingPlaces, Config.outboundPlaces] using free.2
  have kept : s.port.kept = 0 := by simp [Port.kept, free.1.1]
  refine ⟨_, exec_admitted i k h s hk hh hf ha, ?_⟩
  generalize handle i s.hall = r
  rw [drivePins_outbound, drivePins_hall]
  unfold answer placeAnswer Reply.answer
  obtain ⟨outbound, hall⟩ := placeNotices_take r.notices { s with
    hall := r.hall
    port := { s.port with
      outbound := s.port.outbound ++ [.response k.code h.client h.tag r.code r.body]
      start := startAfter k.code r.code s.port.start } }
    (by simp only [State.roomFor, Port.kept, List.length_append, List.length_cons, List.length_nil] at kept ⊢; omega)
  refine ⟨outbound.trans ?_, hall.trans (if_congr ?_ rfl rfl)⟩
  · simp [Port.kept, free.1.1]
  · simp only [State.roomFor, Port.kept, List.length_append, List.length_cons, List.length_nil] at kept ⊢
    omega

/-! ### Cycles on the channels of a list -/

/-- A cycle starts for this ticket when the mode is ONLINE: the channel is IDLE and the ticket heads its queue (R112). -/
def Channel.startsFor (x : Channel) (n : Nat) : Prop := x.state = .idle ∧ x.queue.head? = some n

/-- A channel after the mode has become ONLINE (R88). -/
def Channel.started (x : Channel) : Channel :=
  if x.state = .idle ∧ x.queue ≠ [] then { x with state := .released, timer := some x.openWindow } else x

theorem release_release (t : Ticket) : t.release.release = t.release := by
  unfold Ticket.release
  cases status : t.status <;> simp [status]

theorem startCycle_mode (c : Fin 16) (s : Hall) : (startCycle c s).mode = s.mode := by
  obtain ⟨channels, tickets, e⟩ := startCycle_only c s
  rw [e]

/-- What a cycle's start does to each channel and each ticket while the mode is ONLINE. -/
theorem startCycle_online {s : Hall} (online : s.mode = .online) (c : Fin 16) :
    (∀ d, (startCycle c s).channel d = if c = d then (s.channel d).started else s.channel d) ∧
      (∀ n, (s.channel c).startsFor n → (startCycle c s).tickets.get n = (s.tickets.get n).map Ticket.release) ∧
      (∀ n, ¬(s.channel c).startsFor n → (startCycle c s).tickets.get n = s.tickets.get n) := by
  by_cases go : (s.channel c).state = .idle ∧ (s.channel c).queue ≠ []
  · obtain ⟨idle, ne⟩ := id go
    obtain ⟨n, rest, queue⟩ := List.exists_cons_of_ne_nil ne
    rw [startCycle_go idle online queue]
    have head (m : Nat) : (s.channel c).startsFor m ↔ n = m := by simp [Channel.startsFor, idle, queue]
    refine ⟨fun d => ?_, fun m hm => ?_, fun m hm => ?_⟩
    · by_cases e : c = d
      · subst e
        rw [if_pos rfl, Channel.started, if_pos go]
        exact setChannel_channel ..
      · rw [if_neg e]
        exact setChannel_channel_ne _ _ _ _ e
    · obtain rfl := (head m).mp hm
      cases ht : s.tickets.get n <;> simp [ht]
    · have ne : n ≠ m := fun e => hm ((head m).mpr e)
      cases ht : s.tickets.get n <;> simp [get_put_ne _ _ _ _ ne]
  · have stays : startCycle c s = s := startCycle_stay fun ⟨idle, _, ne⟩ => go ⟨idle, ne⟩
    rw [stays]
    refine ⟨fun d => ?_, fun n starts => (go ⟨starts.1, fun empty => ?_⟩).elim, fun _ _ => rfl⟩
    · split
      · subst_vars
        rw [Channel.started, if_neg go]
      · rfl
    · simpa [empty] using starts.2

/-- Cycles started on the channels of a list, one after another. -/
def startEach (cs : List (Fin 16)) (s : Hall) : Hall := cs.foldl (fun s c => startCycle c s) s

theorem startCycles_eq (s : Hall) : startCycles s = startEach (List.finRange 16) s := rfl

theorem startEach_only (cs : List (Fin 16)) (s : Hall) :
    ∃ channels tickets, startEach cs s = { s with channels := channels, tickets := tickets } := by
  induction cs generalizing s with
  | nil => exact ⟨s.channels, s.tickets, rfl⟩
  | cons c rest ih =>
    obtain ⟨x, y, first⟩ := startCycle_only c s
    obtain ⟨x', y', later⟩ := ih (startCycle c s)
    refine ⟨x', y', later.trans ?_⟩
    rw [first]

/-- What the starts on a list without repeats do to each channel and each ticket. -/
theorem startEach_online {cs : List (Fin 16)} (nodup : cs.Nodup) {s : Hall} (online : s.mode = .online) :
    (∀ d, (startEach cs s).channel d = if d ∈ cs then (s.channel d).started else s.channel d) ∧
      (∀ n, (∃ c ∈ cs, (s.channel c).startsFor n) →
        (startEach cs s).tickets.get n = (s.tickets.get n).map Ticket.release) ∧
      (∀ n, (¬∃ c ∈ cs, (s.channel c).startsFor n) → (startEach cs s).tickets.get n = s.tickets.get n) := by
  induction cs generalizing s with
  | nil => exact ⟨fun _ => rfl, fun _ ⟨_, hc, _⟩ => absurd hc List.not_mem_nil, fun _ _ => rfl⟩
  | cons c rest ih =>
    obtain ⟨fresh, nodup⟩ := List.nodup_cons.mp nodup
    obtain ⟨channel, moves, stays⟩ := startCycle_online online c
    obtain ⟨channels, moveLater, stayLater⟩ := ih nodup (s := startCycle c s) ((startCycle_mode c s).trans online)
    have same (d : Fin 16) (hd : d ∈ rest) : (startCycle c s).channel d = s.channel d := by
      rw [channel, if_neg fun e : c = d => fresh (e ▸ hd)]
    have later (n : Nat) : (∃ d ∈ rest, ((startCycle c s).channel d).startsFor n) ↔
        ∃ d ∈ rest, (s.channel d).startsFor n :=
      exists_congr fun d => and_congr_right fun hd => by rw [same d hd]
    refine ⟨fun d => ?_, fun n starts => ?_, fun n none_ => ?_⟩
    · refine (channels d).trans ?_
      rw [channel]
      by_cases e : c = d
      · subst e
        simp [fresh]
      · simp [e, Ne.symm e]
    · by_cases behind : ∃ d ∈ rest, (s.channel d).startsFor n
      · refine (moveLater n ((later n).mpr behind)).trans ?_
        by_cases here : (s.channel c).startsFor n
        · rw [moves n here, Option.map_map]
          exact congrArg (Option.map · _) (funext release_release)
        · rw [stays n here]
      · refine (stayLater n fun h => behind ((later n).mp h)).trans (moves n ?_)
        obtain ⟨d, hd, hn⟩ := starts
        rcases List.mem_cons.mp hd with rfl | hd
        · exact hn
        · exact (behind ⟨d, hd, hn⟩).elim
    · refine (stayLater n fun h => ?_).trans (stays n fun here => none_ ⟨c, List.mem_cons_self, here⟩)
      obtain ⟨d, hd, hn⟩ := (later n).mp h
      exact none_ ⟨d, List.mem_cons_of_mem _ hd, hn⟩

/-! ### The walk of the chains -/

theorem promise_mode (n : Nat) (t : Ticket) (slot : Nat) (r : Record) (s : Hall) :
    (promise n t slot r s).1.mode = s.mode := by
  rw [promise_eq, (placeWithDrawer_store ..).2.2.2, bindTicket_eq]

theorem offer_mode (slot : Nat) (s : Hall) : (offer slot s).hall.mode = s.mode := by
  rcases offer_cases slot s with e | ⟨r, n, t, -, -, -, e⟩ <;> rw [e]
  exact promise_mode ..

theorem offerEach_mode (slots : List Nat) (s : Hall) : (offerEach slots s).1.mode = s.mode := by
  induction slots generalizing s with
  | nil => rfl
  | cons slot rest ih => exact (ih _).trans (offer_mode slot s)

/-- With no ticket waiting, no offer changes anything. -/
theorem offer_unwanted {s : Hall} (empty : ∀ cls, s.waitQueues.list cls = []) (slot : Nat) :
    offer slot s = ⟨s, [], none⟩ := by
  unfold offer
  split
  · rw [empty]
    rfl
  · rfl

theorem offerEach_unwanted {s : Hall} (empty : ∀ cls, s.waitQueues.list cls = []) (slots : List Nat) :
    offerEach slots s = (s, []) := by
  induction slots with
  | nil => rfl
  | cons slot rest ih =>
    unfold offerEach
    rw [offer_unwanted empty]
    dsimp only
    rw [ih]
    rfl

/-- The walk as a fold of offers that gathers their notices. -/
theorem offerEach_eq_foldl (slots : List Nat) (s : Hall) (notices : List Notice) :
    slots.foldl (fun x slot => ((offer slot x.1).hall, x.2 ++ (offer slot x.1).notices)) (s, notices) =
      ((offerEach slots s).1, notices ++ (offerEach slots s).2) := by
  induction slots generalizing s notices with
  | nil => simp [offerEach]
  | cons slot rest ih =>
    rw [List.foldl_cons, ih]
    simp [offerEach]

/-! ### The obligation -/

theorem changeMode_off_online {s : Hall} (online : s.mode = .online) :
    changeMode false s =
      accept [natWord (drainCheck { s with mode := .draining }).mode.code] (drainCheck { s with mode := .draining }) := by
  unfold changeMode
  rw [online]
  rfl

/-- Switching on a mode that is not ONLINE: the cycles, then the walk. -/
theorem changeMode_on {s : Hall} (away : s.mode ≠ .online) :
    changeMode true s =
      let walked := offerEach (s.chains.flatMap Prod.snd) (startCycles { s with mode := .online })
      ⟨walked.1, .ok, [1], walked.2⟩ := by
  have walks : changeMode true s =
      let started := startCycles { s with mode := .online }
      let walked := offerEach (started.chains.flatMap Prod.snd) started
      ⟨walked.1, .ok, [natWord walked.1.mode.code], walked.2⟩ := by
    unfold changeMode
    cases now : s.mode with
    | online => exact absurd now away
    | draining | offline => rfl
  obtain ⟨channels, tickets, only⟩ := startEach_only (List.finRange 16) { s with mode := .online }
  rw [walks, startCycles_eq]
  generalize startEach (List.finRange 16) { s with mode := .online } = started at only
  have mode : started.mode = .online := by rw [only]
  have chains : started.chains = s.chains := by rw [only]
  dsimp only
  rw [chains, offerEach_mode, mode]
  rfl

/-- Settles O48, by the choice and the mode. -/
theorem issueModeDrainsAndReturns : Obligations.IssueModeDrainsAndReturns := by
  intro h s ha settled
  have answers {on : Bool} {word : Word} {hall : Hall} (hr : changeMode on s.hall = accept [word] hall) :
      exec (.setIssueMode h on) s = .next (s.answered .setIssueMode h .ok [word] [] hall) :=
    exec_quiet ha ⟨rfl, rfl⟩ hr rfl rfl (by decide)
  refine ⟨fun online => answers ?_, fun draining => answers ?_, fun offline => answers ?_,
    fun online all => answers ?_, fun online unsettled => answers ?_, fun away => ?_⟩
  · simp only [changeMode, online, if_true]
    rfl
  · simp only [changeMode, draining, Bool.false_eq_true, if_false]
    rfl
  · simp only [changeMode, offline, Bool.false_eq_true, if_false]
    rfl
  · rw [changeMode_off_online online, drainCheck_drained (s := { s.hall with mode := .draining }) rfl all]
    rfl
  · rw [changeMode_off_online online, drainCheck_unsettled (s := { s.hall with mode := .draining }) unsettled]
    rfl
  obtain ⟨channels, tickets, only⟩ := startEach_only (List.finRange 16) { s.hall with mode := .online }
  obtain ⟨channels', moved, stayed⟩ :=
    startEach_online (List.nodup_finRange 16) (s := { s.hall with mode := .online }) rfl
  have switched := changeMode_on away
  rw [startCycles_eq] at switched
  generalize startEach (List.finRange 16) { s.hall with mode := .online } = hall at only channels' moved stayed switched
  have channel (c : Fin 16) : hall.channel c = (s.hall.channel c).started :=
    (channels' c).trans (if_pos (List.mem_finRange c))
  have moves {c : Fin 16} {n : Nat} (starts : (s.hall.channel c).startsFor n) :
      hall.tickets.get n = (s.hall.tickets.get n).map Ticket.release := moved n ⟨c, List.mem_finRange c, starts⟩
  refine ⟨hall, by rw [only], fun c n rest idle queue => ⟨?_, fun t slot ht status => ?_⟩, fun c quiet => ?_,
    fun n none_ => stayed n fun ⟨c, _, idle, head⟩ => none_ c idle head, fun empty => ?_, ?_⟩
  · rw [channel, Channel.started, if_pos ⟨idle, by simp [queue]⟩]
  · rw [moves ⟨idle, by rw [queue]; rfl⟩, ht, Option.map_some, release_of_promised status]
  · rw [channel, Channel.started, if_neg fun ⟨idle, ne⟩ => quiet.elim (absurd idle) (absurd · ne)]
  · rw [offerEach_unwanted (s := hall) (by rw [only]; exact empty)] at switched
    exact answers switched
  · intro walked
    have walk : walked = offerEach (s.hall.chains.flatMap Prod.snd) hall := by
      simp only [walked, offerEach_eq_foldl, List.nil_append]
    rw [← walk] at switched
    exact exec_take (i := .setIssueMode h true) ha ⟨rfl, rfl⟩ switched rfl rfl

end Sys2Proof.Machine

/-! ## The life unit's part of a sweep (R34, R35, R175, R177 to R181) -/

namespace Sys2Proof.Machine

/-! ### One record at a sweep -/

/-- What a sweep reads of the class table: the policies, which no fall of a usable count changes. -/
def Hall.policyOf (s : Hall) (cls : Nat) : Option Policy := (s.classes.get cls).map ClassEntry.policy

/-- A READY record whose measurement reaches its validity at this sweep is held STALE (R179). -/
def goesStale (p : Nat → Option Policy) (r : Record) : Bool :=
  decide (r.status = .ready ∧ ∃ c ∈ p r.cls, ∃ x ∈ r.measured, 0 < c.validity ∧ c.validity ≤ ageUp x.2.age)

/-- An OUT record reaches its out limit at this sweep, or has passed it (R180). -/
def isLate (p : Nat → Option Policy) (r : Record) : Bool :=
  decide (r.status = .out ∧ ∃ c ∈ p r.cls, 0 < c.outLimit ∧ c.outLimit ≤ ageUp r.outAge)

/-- A record after a sweep. -/
def sweptRecord (p : Nat → Option Policy) (r : Record) : Record :=
  { r.ageMeasurement with
    status := if goesStale p r then .held .stale else r.status
    outAge := if r.status = .out then ageUp r.outAge else r.outAge
    overdue := r.overdue || isLate p r }

/-- The OVERDUE notice of a record that becomes overdue at this sweep (R180). -/
def lateNotice (p : Nat → Option Policy) (slot : Nat) (r : Record) : Option Notice :=
  (p r.cls).bind fun c =>
    if r.status = .out ∧ r.overdue = false ∧ 0 < c.outLimit ∧ c.outLimit ≤ ageUp r.outAge then
      some ⟨.overdue, 255#8, [natWord r.tool, natWord slot, natWord r.cls, natWord (r.dest.getD 0),
        natWord (ageUp r.outAge), natWord c.outLimit]⟩
    else none

theorem ageMeasurement_eq (r : Record) : r.ageMeasurement =
    { r with measured := r.measured.map fun x => (x.1, { x.2 with age := ageUp x.2.age }) } := by
  unfold Record.ageMeasurement
  obtain ⟨tool, cls, status, cause, location, measured, life, regrinds, warned, ended, outAge, overdue, dest, opened⟩ := r
  cases measured <;> rfl

/-- The judgement of R179 on the aged measurement. -/
theorem stale_iff {s : Hall} {r : Record} :
    (r.ageMeasurement.measured.isSome && !fresh (validityOf r.cls s) r.ageMeasurement) = true ↔
      ∃ c ∈ s.policyOf r.cls, ∃ x ∈ r.measured, 0 < c.validity ∧ c.validity ≤ ageUp x.2.age := by
  rw [ageMeasurement_eq]
  unfold fresh validityOf Hall.policyOf
  cases r.measured <;> cases s.classes.get r.cls <;> simp [Nat.pos_iff_ne_zero]

theorem policyOf_eq_some {s : Hall} {cls : Nat} {p : Policy} (h : s.policyOf cls = some p) :
    ∃ c, s.classes.get cls = some c ∧ c.policy = p :=
  Option.map_eq_some_iff.mp h

theorem goesStale_iff {p : Nat → Option Policy} {r : Record} : goesStale p r = true ↔
    r.status = .ready ∧ ∃ c ∈ p r.cls, ∃ x ∈ r.measured, 0 < c.validity ∧ c.validity ≤ ageUp x.2.age := by
  simp only [goesStale, decide_eq_true_eq]

/-- A READY record that goes stale. -/
theorem sweptRecord_stale {p : Nat → Option Policy} {r : Record} (stale : goesStale p r = true) :
    sweptRecord p r = { r.ageMeasurement with status := .held .stale } := by
  have ready := (goesStale_iff.mp stale).1
  unfold sweptRecord
  rw [stale, ageMeasurement_eq]
  simp [isLate, ready]

/-- A record that is not OUT and does not go stale has its measurement aged. -/
theorem sweptRecord_of_not_out {p : Nat → Option Policy} {r : Record} (kept : goesStale p r = false)
    (status : r.status ≠ .out) : sweptRecord p r = r.ageMeasurement := by
  have notLate : isLate p r = false := by simp [isLate, status]
  unfold sweptRecord
  rw [kept, notLate, ageMeasurement_eq]
  simp [status]

theorem lateNotice_of_not_out {p : Nat → Option Policy} {slot : Nat} {r : Record} (status : r.status ≠ .out) :
    lateNotice p slot r = none := by
  simp [lateNotice, status]

/-- An OUT record at a sweep: it is written with its out age counted, and marked and reported when it becomes late. -/
theorem ageOut_eq {slot : Nat} {r : Record} {s : Hall} (out : r.status = .out) :
    ageOut slot r.ageMeasurement s =
      ({ s with
          records := s.records.put slot (sweptRecord s.policyOf r)
          flags := s.flags ||| (if (lateNotice s.policyOf slot r).isSome then 0x10#7 else 0) },
        (lateNotice s.policyOf slot r).toList) := by
  unfold ageOut sweptRecord lateNotice isLate goesStale Hall.policyOf
  rw [ageMeasurement_eq]
  cases s.classes.get r.cls with
  | none => simp [out, Hall.putRecord]
  | some c =>
    by_cases limit : 0 < c.policy.outLimit ∧ c.policy.outLimit ≤ ageUp r.outAge
    · cases overdue : r.overdue with
      | true => simp [out, limit, Hall.putRecord]
      | false =>
        simp [out, limit, Hall.putRecord, setFlag, overdueNotice, everyToolroom, optWord]
        rfl
    · cases overdue : r.overdue <;> simp [out, limit, Hall.putRecord]

/-- What a visit of the sweep can do: pass a free slot over, hold a READY record that has gone stale, or write the record
as the sweep leaves it. -/
theorem ageRecord_cases (slot : Nat) (s : Hall) :
    (s.records.get slot = none ∧ ageRecord slot s = (s, [])) ∨
      ∃ r, s.records.get slot = some r ∧
        ((goesStale s.policyOf r = true ∧ ∃ c, s.classes.get r.cls = some c ∧ ageRecord slot s =
            ({ s with
                records := s.records.put slot (sweptRecord s.policyOf r)
                chains := s.chains.putList r.cls ((s.chains.list r.cls).filter fun x => x != slot)
                classes := s.classes.put r.cls (fallEntry c)
                flags := fallFlags c s.flags }, fallNotices r.cls c)) ∨
          (goesStale s.policyOf r = false ∧ ageRecord slot s =
            ({ s with
                records := s.records.put slot (sweptRecord s.policyOf r)
                flags := s.flags ||| (if (lateNotice s.policyOf slot r).isSome then 0x10#7 else 0) },
              (lateNotice s.policyOf slot r).toList))) := by
  cases found : s.records.get slot with
  | none =>
    refine .inl ⟨rfl, ?_⟩
    unfold ageRecord
    rw [found]
  | some r =>
    refine .inr ⟨r, rfl, ?_⟩
    have fields : r.ageMeasurement.status = r.status ∧ r.ageMeasurement.cls = r.cls := by
      rw [ageMeasurement_eq]
      exact ⟨rfl, rfl⟩
    obtain ⟨sameStatus, sameCls⟩ := fields
    unfold ageRecord
    rw [found]
    dsimp only
    rw [sameStatus, sameCls]
    cases stale : goesStale s.policyOf r with
    | true =>
      obtain ⟨ready, old⟩ := goesStale_iff.mp stale
      obtain ⟨policy, hp, -⟩ := id old
      obtain ⟨c, hc, -⟩ := policyOf_eq_some hp
      refine .inl ⟨rfl, c, hc, ?_⟩
      rw [ready]
      dsimp only
      rw [if_pos (stale_iff.mpr old), holdReady_eq (c := c) (by rw [sameCls]; exact hc), sweptRecord_stale stale, ← sameCls]
    | false =>
      refine .inr ⟨rfl, ?_⟩
      have aged (status : r.status ≠ .out) : (s.putRecord slot r.ageMeasurement, ([] : List Notice)) =
          ({ s with
              records := s.records.put slot (sweptRecord s.policyOf r)
              flags := s.flags ||| (if (lateNotice s.policyOf slot r).isSome then 0x10#7 else 0) },
            (lateNotice s.policyOf slot r).toList) := by
        rw [sweptRecord_of_not_out stale status, lateNotice_of_not_out status]
        simp [Hall.putRecord]
      cases status : r.status with
      | ready =>
        dsimp only
        rw [if_neg fun old => by simp [goesStale_iff.mpr ⟨status, stale_iff.mp old⟩] at stale]
        exact aged (by simp [status])
      | out => exact ageOut_eq status
      | new | gauging _ | promised | mounted | held _ => exact aged (by simp [status])

/-! ### What a visit leaves alone -/

theorem policyOf_put {s t : Hall} {cls : Nat} {c c' : ClassEntry} (hc : s.classes.get cls = some c)
    (classes : t.classes = s.classes.put cls c') (policy : c'.policy = c.policy) : t.policyOf = s.policyOf := by
  funext x
  unfold Hall.policyOf
  rw [classes, get_put]
  split
  · subst_vars
    rw [hc, Option.map_some, Option.map_some, policy]
  · rfl

theorem ageRecord_policyOf (slot : Nat) (s : Hall) : (ageRecord slot s).1.policyOf = s.policyOf := by
  rcases ageRecord_cases slot s with ⟨-, e⟩ | ⟨r, -, ⟨-, c, hc, e⟩ | ⟨-, e⟩⟩ <;> rw [e]
  · exact policyOf_put hc rfl rfl
  · rfl

theorem ageRecord_get (slot : Nat) (s : Hall) (x : Nat) : (ageRecord slot s).1.records.get x =
    if slot = x then (s.records.get x).map (sweptRecord s.policyOf) else s.records.get x := by
  rcases ageRecord_cases slot s with ⟨free, e⟩ | ⟨r, found, ⟨-, c, -, e⟩ | ⟨-, e⟩⟩ <;> rw [e]
  · split
    · subst_vars
      rw [free]
      rfl
    · rfl
  all_goals
    refine (get_put ..).trans ?_
    split
    · subst_vars
      rw [found]
      rfl
    · rfl

/-- A slot that is visited later is found as it was. -/
theorem ageRecord_get_ne {slot x : Nat} (ne : slot ≠ x) (s : Hall) :
    (ageRecord slot s).1.records.get x = s.records.get x := by
  rw [ageRecord_get, if_neg ne]

theorem ageRecords_cons (slot : Nat) (rest : List Nat) (s : Hall) :
    ageRecords (slot :: rest) s =
      ((ageRecords rest (ageRecord slot s).1).1, (ageRecord slot s).2 ++ (ageRecords rest (ageRecord slot s).1).2) := rfl

/-- The life unit's part changes records, chains, classes and flags, and no more. -/
theorem ageRecords_only (slots : List Nat) (s : Hall) : ∃ records chains classes flags,
    (ageRecords slots s).1 = { s with records := records, chains := chains, classes := classes, flags := flags } := by
  induction slots generalizing s with
  | nil => exact ⟨s.records, s.chains, s.classes, s.flags, rfl⟩
  | cons slot rest ih =>
    obtain ⟨records, chains, classes, flags, later⟩ := ih (ageRecord slot s).1
    refine ⟨records, chains, classes, flags, ?_⟩
    rw [ageRecords_cons, later]
    rcases ageRecord_cases slot s with ⟨-, e⟩ | ⟨r, -, ⟨-, c, -, e⟩ | ⟨-, e⟩⟩ <;> rw [e]

theorem ageRecords_policyOf (slots : List Nat) (s : Hall) : (ageRecords slots s).1.policyOf = s.policyOf := by
  induction slots generalizing s with
  | nil => rfl
  | cons slot rest ih => exact (ih _).trans (ageRecord_policyOf slot s)

/-! ### Every record -/

/-- Each slot visited holds its record as the sweep leaves it. -/
theorem ageRecords_get {slots : List Nat} (nodup : slots.Nodup) (s : Hall) (x : Nat) :
    (ageRecords slots s).1.records.get x =
      if x ∈ slots then (s.records.get x).map (sweptRecord s.policyOf) else s.records.get x := by
  induction slots generalizing s with
  | nil => rfl
  | cons slot rest ih =>
    obtain ⟨fresh, nodup⟩ := List.nodup_cons.mp nodup
    rw [ageRecords_cons, ih nodup, ageRecord_policyOf, ageRecord_get]
    by_cases here : slot = x
    · subst here
      simp [fresh]
    · simp [here, Ne.symm here]

/-- The OVERDUE notice that a sweep sends for a slot. -/
def Hall.lateAt (s : Hall) (slot : Nat) : Option Notice := (s.records.get slot).bind (lateNotice s.policyOf slot)

/-- The class that a sweep takes the usable record of a slot from. -/
def Hall.staleIn (s : Hall) (slot : Nat) : Option Nat :=
  (s.records.get slot).bind fun r => if goesStale s.policyOf r then some r.cls else none

theorem ageRecord_lateAt {slot x : Nat} (ne : slot ≠ x) (s : Hall) : (ageRecord slot s).1.lateAt x = s.lateAt x := by
  simp only [Hall.lateAt, ageRecord_get_ne ne, ageRecord_policyOf]

theorem ageRecord_staleIn {slot x : Nat} (ne : slot ≠ x) (s : Hall) : (ageRecord slot s).1.staleIn x = s.staleIn x := by
  simp only [Hall.staleIn, ageRecord_get_ne ne, ageRecord_policyOf]

/-! ### Chains -/

/-- The slots that go stale leave their class's chain. -/
theorem ageRecords_chains {slots : List Nat} (nodup : slots.Nodup) (s : Hall) (cls : Nat) :
    (ageRecords slots s).1.chains.list cls =
      (s.chains.list cls).filter fun x => !decide (x ∈ slots ∧ s.staleIn x = some cls) := by
  induction slots generalizing s with
  | nil => simp [ageRecords]
  | cons slot rest ih =>
    obtain ⟨fresh, nodup⟩ := List.nodup_cons.mp nodup
    have visit : (ageRecord slot s).1.chains.list cls =
        (s.chains.list cls).filter fun x => !decide (x = slot ∧ s.staleIn slot = some cls) := by
      have stays (out : s.staleIn slot ≠ some cls) :
          s.chains.list cls = (s.chains.list cls).filter fun x => !decide (x = slot ∧ s.staleIn slot = some cls) := by
        simp [out]
      rcases ageRecord_cases slot s with ⟨free, e⟩ | ⟨r, found, ⟨stale, c, -, e⟩ | ⟨kept, e⟩⟩ <;> rw [e]
      · exact stays (by simp [Hall.staleIn, free])
      · have own : s.staleIn slot = some r.cls := by simp [Hall.staleIn, found, stale]
        refine (list_putList ..).trans ?_
        split
        · subst_vars
          refine List.filter_congr fun x _ => ?_
          by_cases here : x = slot <;> simp [own, here]
        · rename_i other
          exact stays (by simp [own, other])
      · exact stays (by simp [Hall.staleIn, found, kept])
    rw [ageRecords_cons, ih nodup, visit, List.filter_filter]
    refine List.filter_congr fun x _ => ?_
    by_cases here : x = slot
    · subst here
      simp [fresh]
    · simp [here, ageRecord_staleIn (Ne.symm here)]

/-! ### Notices -/

theorem fallNotices_kind (cls : Nat) (c : ClassEntry) : ∀ x ∈ fallNotices cls c, x.kind = .lowStock := by
  unfold fallNotices
  split <;> simp

theorem lateNotice_kind {p : Nat → Option Policy} {slot : Nat} {r : Record} {x : Notice}
    (h : lateNotice p slot r = some x) : x.kind = .overdue := by
  obtain ⟨c, -, hx⟩ := Option.bind_eq_some_iff.mp h
  split at hx
  · cases hx
    rfl
  · cases hx

/-- The OVERDUE notices of one visit, and the others. -/
theorem ageRecord_notices (slot : Nat) (s : Hall) :
    (ageRecord slot s).2.filter (fun x => decide (x.kind = .overdue)) = (s.lateAt slot).toList ∧
      (ageRecord slot s).2.filter (fun x => decide (x.kind ≠ .overdue)) =
        ((s.staleIn slot).bind fun cls => (s.classes.get cls).map fun c => fallNotices cls c).getD [] := by
  rcases ageRecord_cases slot s with ⟨free, e⟩ | ⟨r, found, ⟨stale, c, hc, e⟩ | ⟨kept, e⟩⟩ <;> rw [e]
  · simp [Hall.lateAt, Hall.staleIn, free]
  · have notLate : lateNotice s.policyOf slot r = none :=
      lateNotice_of_not_out (by rw [(goesStale_iff.mp stale).1]; decide)
    constructor
    · simp only [Hall.lateAt, found, Option.bind_some, notLate, Option.toList_none]
      exact List.filter_eq_nil_iff.mpr fun x hx => by simp [fallNotices_kind r.cls c x hx]
    · simp only [Hall.staleIn, found, stale, Option.bind_some, if_true, hc, Option.map_some, Option.getD_some]
      exact List.filter_eq_self.mpr fun x hx => by simp [fallNotices_kind r.cls c x hx]
  · simp only [Hall.lateAt, Hall.staleIn, found, kept, Option.bind_some, Bool.false_eq_true, if_false, Option.bind_none,
      Option.getD_none]
    cases late : lateNotice s.policyOf slot r with
    | none => simp
    | some x => simp [lateNotice_kind late]

/-- The OVERDUE notices stand in the order of the slots visited. -/
theorem ageRecords_overdue {slots : List Nat} (nodup : slots.Nodup) (s : Hall) :
    (ageRecords slots s).2.filter (fun x => decide (x.kind = .overdue)) = slots.filterMap s.lateAt := by
  induction slots generalizing s with
  | nil => rfl
  | cons slot rest ih =>
    obtain ⟨fresh, nodup⟩ := List.nodup_cons.mp nodup
    have same : rest.filterMap (ageRecord slot s).1.lateAt = rest.filterMap s.lateAt :=
      List.filterMap_congr fun x hx => ageRecord_lateAt (fun e : slot = x => fresh (e ▸ hx)) s
    rw [ageRecords_cons, List.filter_append, ih nodup, (ageRecord_notices slot s).1, same, List.filterMap_cons]
    cases s.lateAt slot <;> rfl

/-- The flags a list of notices of a sweep sets: OVERDUE for its kind, LOW-STOCK for the other. -/
def sweepFlags (notices : List Notice) : BitVec 7 :=
  (if notices.filter (fun x => decide (x.kind = .overdue)) = [] then 0 else 0x10#7) |||
    (if notices.filter (fun x => decide (x.kind ≠ .overdue)) = [] then 0 else 0x08#7)

/-- A flag that stands for a kind of notice is set by one list or by the other. -/
theorem flag_append (mask : BitVec 7) (a b : List Notice) :
    (if a ++ b = [] then 0 else mask) = (if a = [] then 0 else mask) ||| (if b = [] then 0 else mask) := by
  cases a <;> cases b <;> simp

theorem sweepFlags_append (a b : List Notice) : sweepFlags (a ++ b) = sweepFlags a ||| sweepFlags b := by
  unfold sweepFlags
  rw [List.filter_append, List.filter_append, flag_append, flag_append]
  ac_rfl

theorem ageRecords_flags (slots : List Nat) (s : Hall) :
    (ageRecords slots s).1.flags = s.flags ||| sweepFlags (ageRecords slots s).2 := by
  induction slots generalizing s with
  | nil => simp [ageRecords, sweepFlags]
  | cons slot rest ih =>
    have visit : (ageRecord slot s).1.flags = s.flags ||| sweepFlags (ageRecord slot s).2 := by
      rcases ageRecord_cases slot s with ⟨-, e⟩ | ⟨r, -, ⟨-, c, -, e⟩ | ⟨-, e⟩⟩ <;> rw [e]
      · simp [sweepFlags]
      · unfold fallFlags fallNotices
        split <;> simp [sweepFlags]
      · cases late : lateNotice s.policyOf slot r with
        | none => simp [sweepFlags]
        | some x => simp [sweepFlags, lateNotice_kind late]
    rw [ageRecords_cons, ih, visit, sweepFlags_append, BitVec.or_assoc]

end Sys2Proof.Machine

/-! ## The usable counts at a sweep (R33 to R35, R179) -/

namespace Sys2Proof.Machine

/-! ### Falls of one class -/

/-- A class entry that has lost usable tools. -/
def lessUsable (k : Nat) (c : ClassEntry) : ClassEntry :=
  { c with usable := c.usable - k, low := decide (c.usable - k < c.policy.minStock) }

/-- The LOW-STOCK notice of a class that becomes low in a sweep that takes some usable tools from it (R35): it is sent by
the fall that goes below the minimum stock, whatever falls come after it. -/
def lowNotice (k cls : Nat) (c : ClassEntry) : Option Notice :=
  if c.low = false ∧ c.usable - k < c.policy.minStock then
    some ⟨.lowStock, 255#8, [natWord cls, natWord (c.policy.minStock - 1), natWord c.policy.minStock]⟩
  else none

/-- Each low mark is the comparison of the usable count with the minimum stock (R34). -/
def MarksTrue (classes : Table ClassEntry) : Prop :=
  ∀ cls c, classes.get cls = some c → c.low = decide (c.usable < c.policy.minStock)

theorem lessUsable_zero {c : ClassEntry} (mark : c.low = decide (c.usable < c.policy.minStock)) : lessUsable 0 c = c := by
  unfold lessUsable
  rw [Nat.sub_zero, ← mark]

theorem lessUsable_fallEntry (k : Nat) (c : ClassEntry) : lessUsable k (fallEntry c) = lessUsable (k + 1) c := by
  simp only [lessUsable, fallEntry, Nat.sub_sub, Nat.add_comm 1 k]

theorem lowNotice_zero {c : ClassEntry} (mark : c.low = decide (c.usable < c.policy.minStock)) (cls : Nat) :
    lowNotice 0 cls c = none := by
  simp [lowNotice, mark]

/-- One fall and the falls after it report what all of them together report. -/
theorem lowNotice_succ {c : ClassEntry} (mark : c.low = decide (c.usable < c.policy.minStock)) (k cls : Nat) :
    (lowNotice (k + 1) cls c).toList = fallNotices cls c ++ (lowNotice k cls (fallEntry c)).toList := by
  by_cases low : c.usable < c.policy.minStock
  · have after : c.usable - 1 < c.policy.minStock := by omega
    simp [lowNotice, fallNotices, fallSetsLow, fallEntry, mark, low, after]
  · by_cases crosses : c.usable - 1 < c.policy.minStock
    · have last : c.usable = c.policy.minStock := by omega
      have all : c.usable - (k + 1) < c.policy.minStock := by omega
      simp [lowNotice, fallNotices, fallSetsLow, fallEntry, mark, low, crosses, all]
      rw [last]
    · simp [lowNotice, fallNotices, fallSetsLow, fallEntry, mark, low, crosses, Nat.sub_sub, Nat.add_comm 1 k]

theorem MarksTrue.fall {classes : Table ClassEntry} (h : MarksTrue classes) (cls : Nat) (c : ClassEntry) :
    MarksTrue (classes.put cls (fallEntry c)) := by
  intro x cx hx
  rw [get_put] at hx
  split at hx
  · cases hx
    rfl
  · exact h x cx hx

theorem filterMap_cons_append {α β : Type} (f : α → Option β) (a : α) (l : List α) :
    (a :: l).filterMap f = (f a).toList ++ l.filterMap f := by
  rw [List.filterMap_cons]
  cases f a <;> rfl

/-- One class falls, and then every class falls further: the notices of that fall and of the later ones are those of all
falls together. -/
theorem lowNotices_put {classes : Table ClassEntry} (wf : classes.wf) (marks : MarksTrue classes) {cls : Nat}
    {c : ClassEntry} (hc : classes.get cls = some c) {few all : Nat → Nat} (own : all cls = few cls + 1)
    (others : ∀ x, x ≠ cls → all x = few x) :
    (fallNotices cls c ++ (classes.put cls (fallEntry c)).filterMap fun e => lowNotice (few e.1) e.1 e.2).Perm
      (classes.filterMap fun e => lowNotice (all e.1) e.1 e.2) := by
  have mark := marks cls c hc
  clear marks
  induction classes with
  | nil => cases hc
  | cons e rest ih =>
    obtain ⟨k, x⟩ := e
    obtain ⟨first, later⟩ := List.pairwise_cons.mp wf
    unfold Table.get at hc
    unfold Table.put
    split at hc
    · rename_i here
      cases hc
      subst here
      have same : rest.filterMap (fun e => lowNotice (few e.1) e.1 e.2) =
          rest.filterMap fun e => lowNotice (all e.1) e.1 e.2 :=
        List.filterMap_congr fun e he => by rw [others e.1 (Nat.ne_of_gt (first e he))]
      rw [if_neg (by omega), if_pos rfl, filterMap_cons_append, filterMap_cons_append, own,
        lowNotice_succ mark, same, List.append_assoc]
    · have below : k < cls := first _ (mem_of_get _ _ _ hc)
      rw [if_neg (by omega), if_neg (by omega), filterMap_cons_append, filterMap_cons_append,
        others k (by omega)]
      exact (List.perm_append_comm_assoc ..).trans ((ih later hc).append_left _)

/-! ### Falls of a walk over slots -/

/-- How many of the slots a sweep takes from the usable tools of a class. -/
def Hall.lostAmong (s : Hall) (slots : List Nat) (cls : Nat) : Nat :=
  slots.countP fun x => decide (s.staleIn x = some cls)

theorem lostAmong_cons (s : Hall) (slot : Nat) (rest : List Nat) (cls : Nat) :
    s.lostAmong (slot :: rest) cls = s.lostAmong rest cls + if s.staleIn slot = some cls then 1 else 0 := by
  simp [Hall.lostAmong, List.countP_cons]

/-- A visit leaves to the later ones what they take. -/
theorem ageRecord_lostAmong {slot : Nat} {rest : List Nat} (fresh : slot ∉ rest) (s : Hall) (cls : Nat) :
    (ageRecord slot s).1.lostAmong rest cls = s.lostAmong rest cls :=
  List.countP_congr fun x hx => by rw [ageRecord_staleIn fun e : slot = x => fresh (e ▸ hx)]

/-- A visit writes the class entry of a slot that goes stale, and no other. -/
theorem ageRecord_classes (slot : Nat) (s : Hall) :
    (s.staleIn slot = none ∧ (ageRecord slot s).1.classes = s.classes) ∨
      ∃ cls c, s.staleIn slot = some cls ∧ s.classes.get cls = some c ∧
        (ageRecord slot s).1.classes = s.classes.put cls (fallEntry c) := by
  rcases ageRecord_cases slot s with ⟨free, e⟩ | ⟨r, found, ⟨stale, c, hc, e⟩ | ⟨kept, e⟩⟩ <;> rw [e]
  · exact .inl ⟨by simp [Hall.staleIn, free], rfl⟩
  · exact .inr ⟨r.cls, c, by simp [Hall.staleIn, found, stale], hc, rfl⟩
  · exact .inl ⟨by simp [Hall.staleIn, found, kept], rfl⟩

theorem MarksTrue.ageRecord {s : Hall} (h : MarksTrue s.classes) (slot : Nat) : MarksTrue (ageRecord slot s).1.classes := by
  rcases ageRecord_classes slot s with ⟨-, e⟩ | ⟨cls, c, -, -, e⟩ <;> rw [e]
  exacts [h, h.fall cls c]

/-- Each class has lost the tools that went stale, and its low mark follows (R34). -/
theorem ageRecords_classes {slots : List Nat} (nodup : slots.Nodup) {s : Hall} (marks : MarksTrue s.classes) {cls : Nat}
    {c : ClassEntry} (hc : s.classes.get cls = some c) :
    (ageRecords slots s).1.classes.get cls = some (lessUsable (s.lostAmong slots cls) c) := by
  induction slots generalizing s c with
  | nil => exact hc.trans (congrArg some (lessUsable_zero (marks cls c hc)).symm)
  | cons slot rest ih =>
    obtain ⟨fresh, nodup⟩ := List.nodup_cons.mp nodup
    rw [ageRecords_cons, lostAmong_cons, ← ageRecord_lostAmong fresh]
    rcases ageRecord_classes slot s with ⟨none, e⟩ | ⟨x, cx, own, hx, e⟩
    · rw [none, if_neg (by simp)]
      exact ih nodup (marks.ageRecord slot) (by rw [e]; exact hc)
    · rw [own]
      by_cases here : x = cls
      · subst here
        obtain rfl : cx = c := Option.some.inj (hx.symm.trans hc)
        rw [if_pos rfl, ← lessUsable_fallEntry]
        exact ih nodup (marks.ageRecord slot) (by rw [e, get_put, if_pos rfl])
      · rw [if_neg (by simpa using here)]
        exact ih nodup (marks.ageRecord slot) (by rw [e, get_put, if_neg here]; exact hc)

/-- The notices that are not OVERDUE are one LOW-STOCK for each class that becomes low. -/
theorem ageRecords_lowStock {slots : List Nat} (nodup : slots.Nodup) {s : Hall} (wf : s.classes.wf)
    (marks : MarksTrue s.classes) :
    ((ageRecords slots s).2.filter fun x => decide (x.kind ≠ .overdue)).Perm
      (s.classes.filterMap fun e => lowNotice (s.lostAmong slots e.1) e.1 e.2) := by
  induction slots generalizing s with
  | nil =>
    have none : s.classes.filterMap (fun e => lowNotice (s.lostAmong [] e.1) e.1 e.2) = [] :=
      List.filterMap_eq_nil_iff.mpr fun e he => lowNotice_zero (marks e.1 e.2 (get_of_mem wf he)) e.1
    rw [none]
    exact .refl _
  | cons slot rest ih =>
    obtain ⟨fresh, nodup⟩ := List.nodup_cons.mp nodup
    rw [ageRecords_cons, List.filter_append, (ageRecord_notices slot s).2]
    have later := fun wf => ih (s := (ageRecord slot s).1) nodup wf (marks.ageRecord slot)
    simp only [ageRecord_lostAmong fresh] at later
    rcases ageRecord_classes slot s with ⟨none, e⟩ | ⟨cls, c, own, hc, e⟩
    · rw [e] at later
      simpa [none, lostAmong_cons] using later wf
    · rw [e] at later
      rw [own, Option.bind_some, hc, Option.map_some, Option.getD_some]
      refine ((later (wf_put _ _ _ wf)).append_left _).trans (lowNotices_put wf marks hc ?_ fun x ne => ?_)
      · rw [lostAmong_cons, own, if_pos rfl]
      · rw [lostAmong_cons, own, if_neg (by simpa using Ne.symm ne), Nat.add_zero]

/-! ### Every slot of the store -/

theorem nodup_keys {α : Type} {t : Table α} (wf : t.wf) : t.keys.Nodup :=
  List.pairwise_map.mpr (wf.imp Nat.ne_of_lt)

theorem mem_keys_of_get {α : Type} {t : Table α} {n : Nat} {v : α} (h : t.get n = some v) : n ∈ t.keys :=
  List.mem_map_of_mem (f := Prod.fst) (mem_of_get t n v h)

theorem lateAt_keys {s : Hall} (wf : s.records.wf) :
    s.records.keys.filterMap s.lateAt = s.records.filterMap fun e => lateNotice s.policyOf e.1 e.2 := by
  rw [Table.keys, List.filterMap_map]
  exact List.filterMap_congr fun e he => by simp [Hall.lateAt, get_of_mem wf he]

theorem lostAmong_keys {s : Hall} (wf : s.records.wf) (cls : Nat) :
    s.lostAmong s.records.keys cls = s.records.count fun r => goesStale s.policyOf r && decide (r.cls = cls) := by
  rw [Hall.lostAmong, Table.keys, List.countP_map, Table.count, ← List.countP_eq_length_filter]
  exact List.countP_congr fun e he => by
    cases stale : goesStale s.policyOf e.2 <;> simp [Hall.staleIn, get_of_mem wf he, stale]

/-- The tools that go stale leave their chains, which hold none of another class. -/
theorem ageRecords_chains_keys {s : Hall} (wf : s.records.wf) (chains : ChainsOk s.readyAt s.chains) (cls : Nat) :
    (ageRecords s.records.keys s).1.chains.list cls = (s.chains.list cls).filter fun slot =>
      decide (¬∃ r ∈ s.records.get slot, goesStale s.policyOf r = true) := by
  rw [ageRecords_chains (nodup_keys wf)]
  refine List.filter_congr fun x hx => ?_
  obtain ⟨life, tool, key⟩ := (chains.member cls x).mp hx
  obtain ⟨r, hr, -, rfl, -⟩ := readyAt_eq_some.mp key
  have listed : x ∈ s.records.keys := mem_keys_of_get hr
  cases stale : goesStale s.policyOf r <;> simp [Hall.staleIn, hr, stale, listed]

end Sys2Proof.Machine

/-! ## The issue unit's part of a sweep (R103) -/

namespace Sys2Proof.Machine

/-! ### One ticket at a sweep -/

/-- A waiting ticket reaches the wait limit of its class at this sweep. -/
def expires (p : Nat → Option Policy) (t : Ticket) : Bool :=
  decide (∃ c ∈ p t.cls, 0 < c.waitLimit ∧ c.waitLimit ≤ ageUp t.age)

/-- A waiting PLAN ticket reaches the promotion age of its class at this sweep. -/
def promotes (p : Nat → Option Policy) (t : Ticket) : Bool :=
  decide (∃ c ∈ p t.cls, t.band = .plan ∧ 0 < c.promotionAge ∧ c.promotionAge ≤ ageUp t.age)

/-- A ticket that stays, as the sweep leaves it. -/
def agedTicket (p : Nat → Option Policy) (t : Ticket) : Ticket :=
  { t with age := ageUp t.age, band := if promotes p t then .stop else t.band }

/-- A ticket after a sweep. -/
def sweptTicket (p : Nat → Option Policy) (t : Ticket) : Option Ticket :=
  if expires p t then none else some (agedTicket p t)

/-- The EXPIRED notice of a ticket. -/
def expiry (p : Nat → Option Policy) (n : Nat) (t : Ticket) : Option Notice :=
  if expires p t then
    some ⟨.expired, BitVec.ofNat 8 t.requester,
      [natWord n, t.tag, natWord t.cls, natWord t.band.code, natWord (ageUp t.age)]⟩
  else none

/-- The wait queue of a class of which the ticket ages. -/
def sweptQueue (s : Hall) (n : Nat) (t : Ticket) : List Nat :=
  if expires s.policyOf t then (s.waitQueues.list t.cls).filter fun x => x != n
  else if promotes s.policyOf t then
    insertByBand (s.tickets.put n (agedTicket s.policyOf t)) n 0 ((s.waitQueues.list t.cls).filter fun x => x != n)
  else s.waitQueues.list t.cls

/-- What the ageing of one ticket does to its table, its wait queue and the notices. -/
theorem ageTicket_listed {s : Hall} {n : Nat} {t : Ticket} (ht : s.tickets.get n = some t) :
    (∀ m, (ageTicket n s).1.tickets.get m = if n = m then sweptTicket s.policyOf t else s.tickets.get m) ∧
      (∀ k, (ageTicket n s).1.waitQueues.list k = if t.cls = k then sweptQueue s n t else s.waitQueues.list k) ∧
      (ageTicket n s).2 = (expiry s.policyOf n t).toList := by
  have keep (k : Nat) {l : List Nat} (same : l = s.waitQueues.list t.cls) :
      s.waitQueues.list k = if t.cls = k then l else s.waitQueues.list k := by
    split
    · subst_vars
      rfl
    · rfl
  unfold ageTicket sweptTicket agedTicket sweptQueue expiry agedTicket
  rw [ht]
  dsimp only
  cases hc : s.classes.get t.cls with
  | none =>
    have policy : s.policyOf t.cls = none := by simp [Hall.policyOf, hc]
    have stays : expires s.policyOf t = false := by simp [expires, policy]
    have waits : promotes s.policyOf t = false := by simp [promotes, policy]
    simp only [stays, waits, Bool.false_eq_true, if_false]
    exact ⟨fun m => get_put .., fun k => keep k rfl, rfl⟩
  | some c =>
    have policy : s.policyOf t.cls = some c.policy := by simp [Hall.policyOf, hc]
    dsimp only
    split
    · rename_i old
      have ends : expires s.policyOf t = true := by simpa [expires, policy] using old
      simp only [ends, if_true]
      exact ⟨fun m => get_del .., fun k => list_putList .., rfl⟩
    · rename_i old
      have stays : expires s.policyOf t = false := by simpa [expires, policy] using old
      split
      · rename_i up
        have rises : promotes s.policyOf t = true := by simpa [promotes, policy] using up
        simp only [stays, rises, Bool.false_eq_true, if_false, if_true]
        refine ⟨fun m => get_put .., fun k => (list_putList ..).trans ?_, rfl⟩
        split
        · subst_vars
          exact congrArg (insertByBand _ n 0) ((list_putList ..).trans (if_pos rfl))
        · rename_i other
          exact (list_putList ..).trans (if_neg other)
      · rename_i up
        have waits : promotes s.policyOf t = false := by simpa [promotes, policy] using up
        simp only [stays, waits, Bool.false_eq_true, if_false]
        exact ⟨fun m => get_put .., fun k => keep k rfl, rfl⟩

theorem ageTicket_free {s : Hall} {n : Nat} (free : s.tickets.get n = none) : ageTicket n s = (s, []) := by
  unfold ageTicket
  rw [free]

theorem ageTicket_policyOf (n : Nat) (s : Hall) : (ageTicket n s).1.policyOf = s.policyOf := by
  obtain ⟨tickets, waitQueues, e⟩ := ageTicket_only n s
  rw [e]
  rfl

/-! ### Every ticket -/

theorem ageTickets_cons (n : Nat) (rest : List Nat) (s : Hall) :
    ageTickets (n :: rest) s =
      ((ageTickets rest (ageTicket n s).1).1, (ageTicket n s).2 ++ (ageTickets rest (ageTicket n s).1).2) := rfl

/-- The issue unit's part changes tickets and wait queues, and no more. -/
theorem ageTickets_only (l : List Nat) (s : Hall) :
    ∃ tickets waitQueues, (ageTickets l s).1 = { s with tickets := tickets, waitQueues := waitQueues } := by
  induction l generalizing s with
  | nil => exact ⟨s.tickets, s.waitQueues, rfl⟩
  | cons n rest ih =>
    obtain ⟨tickets, waitQueues, later⟩ := ih (ageTicket n s).1
    obtain ⟨x, y, e⟩ := ageTicket_only n s
    exact ⟨tickets, waitQueues, by rw [ageTickets_cons, later, e]⟩

/-- Each ticket of the walk is left as the sweep leaves it. -/
theorem ageTickets_get {l : List Nat} (nodup : l.Nodup) (s : Hall) (m : Nat) : (ageTickets l s).1.tickets.get m =
    if m ∈ l then (s.tickets.get m).bind (sweptTicket s.policyOf) else s.tickets.get m := by
  induction l generalizing s with
  | nil => rfl
  | cons n rest ih =>
    obtain ⟨fresh, nodup⟩ := List.nodup_cons.mp nodup
    rw [ageTickets_cons, ih nodup, ageTicket_policyOf]
    by_cases here : n = m
    · subst here
      rw [if_neg fresh, if_pos List.mem_cons_self]
      cases ht : s.tickets.get n with
      | none => rw [ageTicket_free ht, ht, Option.bind_none]
      | some t => rw [(ageTicket_listed ht).1, if_pos rfl, Option.bind_some]
    · simp [ageTicket_other here, Ne.symm here]

/-- The EXPIRED notices stand in the order of the walk. -/
theorem ageTickets_notices {l : List Nat} (nodup : l.Nodup) (s : Hall) :
    (ageTickets l s).2 = l.filterMap fun n => (s.tickets.get n).bind (expiry s.policyOf n) := by
  induction l generalizing s with
  | nil => rfl
  | cons n rest ih =>
    obtain ⟨fresh, nodup⟩ := List.nodup_cons.mp nodup
    have same : rest.filterMap (fun m => ((ageTicket n s).1.tickets.get m).bind (expiry s.policyOf m)) =
        rest.filterMap fun m => (s.tickets.get m).bind (expiry s.policyOf m) :=
      List.filterMap_congr fun m hm => by rw [ageTicket_other fun e : n = m => fresh (e ▸ hm)]
    rw [ageTickets_cons, ih nodup, ageTicket_policyOf, same, filterMap_cons_append]
    refine congrArg (· ++ _) ?_
    cases ht : s.tickets.get n with
    | none => rw [ageTicket_free ht]; rfl
    | some t => rw [(ageTicket_listed ht).2.2, Option.bind_some]

/-! ### A wait queue during the sweep -/

/-- The ticket of this number expires at this sweep. -/
def Hall.expiresAt (s : Hall) (n : Nat) : Bool := (s.tickets.get n).any (expires s.policyOf)

/-- The ticket of this number is promoted at this sweep, unless it expires. -/
def Hall.promotesAt (s : Hall) (n : Nat) : Bool := (s.tickets.get n).any (promotes s.policyOf)

/-- The ticket of this number is of the band. -/
def Hall.bandAt (s : Hall) (b : Band) (n : Nat) : Bool := (s.tickets.get n).any fun t => decide (t.band = b)

/-- The ticket of this number is of the class. -/
def Hall.waitsIn (s : Hall) (k n : Nat) : Bool := (s.tickets.get n).any fun t => decide (t.cls = k)

/-- A ticket that is STOP after the sweep. -/
def Hall.leads (s : Hall) (n : Nat) : Bool := !s.expiresAt n && (s.bandAt .stop n || s.promotesAt n)

/-- A ticket that waits behind the STOP tickets after the sweep. -/
def Hall.trails (s : Hall) (n : Nat) : Bool := !s.expiresAt n && !(s.bandAt .stop n || s.promotesAt n)

theorem leads_eq {s : Hall} {n : Nat} {t : Ticket} (ht : s.tickets.get n = some t)
    (stays : expires s.policyOf t = false) : s.leads n = (decide (t.band = .stop) || promotes s.policyOf t) := by
  simp [Hall.leads, Hall.expiresAt, Hall.bandAt, Hall.promotesAt, ht, stays]

theorem trails_eq {s : Hall} {n : Nat} {t : Ticket} (ht : s.tickets.get n = some t)
    (stays : expires s.policyOf t = false) : s.trails n = !(decide (t.band = .stop) || promotes s.policyOf t) := by
  simp [Hall.trails, Hall.expiresAt, Hall.bandAt, Hall.promotesAt, ht, stays]

/-- The wait queue of a class in the middle of a sweep: the STOP tickets that have aged, the others that have aged, and
the tickets still to come. -/
structure SweepOrder (s : Hall) (k : Nat) (front back rest : List Nat) : Prop where
  nodup : (front ++ (back ++ rest)).Nodup
  own : ∀ n ∈ front ++ (back ++ rest), s.waitsIn k n = true
  stop : ∀ n ∈ front, rankOf s.tickets n = 0
  other : ∀ n ∈ back, 0 < rankOf s.tickets n
  rises : (back ++ rest).Pairwise fun a b => rankOf s.tickets a ≤ rankOf s.tickets b

/-- A ticket goes behind the STOP tickets and before the others. -/
theorem insertByBand_stop {tickets : Table Ticket} {n : Nat} {front back : List Nat}
    (stop : ∀ x ∈ front, rankOf tickets x = 0) (other : ∀ x ∈ back, 0 < rankOf tickets x) :
    insertByBand tickets n 0 (front ++ back) = front ++ n :: back := by
  induction front with
  | nil =>
    cases back with
    | nil => rfl
    | cons x rest => exact if_pos (other x List.mem_cons_self)
  | cons x rest ih =>
    rw [List.cons_append, insertByBand, if_neg (by rw [stop x List.mem_cons_self]; exact Nat.lt_irrefl 0),
      ih fun y hy => stop y (List.mem_cons_of_mem _ hy)]
    rfl

theorem rankOf_congr {t t' : Table Ticket} {n : Nat} (h : t'.get n = t.get n) : rankOf t' n = rankOf t n := by
  unfold rankOf
  rw [h]

theorem waitsIn_congr {s s' : Hall} {n : Nat} (h : s'.tickets.get n = s.tickets.get n) (k : Nat) :
    s'.waitsIn k n = s.waitsIn k n := by
  unfold Hall.waitsIn
  rw [h]

theorem waitsIn_iff {s : Hall} {k n : Nat} : s.waitsIn k n = true ↔ ∃ t, s.tickets.get n = some t ∧ t.cls = k := by
  simp [Hall.waitsIn, Option.any_eq_true]

namespace SweepOrder

variable {s s' : Hall} {k n : Nat} {front back rest : List Nat}

/-- The order looks at the class and the rank of the tickets alone. -/
theorem congr (h : SweepOrder s k front back rest)
    (same : ∀ m ∈ front ++ (back ++ rest), s'.waitsIn k m = s.waitsIn k m ∧ rankOf s'.tickets m = rankOf s.tickets m) :
    SweepOrder s' k front back rest := by
  refine ⟨h.nodup, fun m hm => (same m hm).1.trans (h.own m hm), fun m hm => ?_, fun m hm => ?_,
    h.rises.imp_of_mem fun {a b} ha hb le => ?_⟩
  · rw [(same m (List.mem_append_left _ hm)).2]
    exact h.stop m hm
  · rw [(same m (List.mem_append_right _ (List.mem_append_left _ hm))).2]
    exact h.other m hm
  · rw [(same a (List.mem_append_right _ ha)).2, (same b (List.mem_append_right _ hb)).2]
    exact le

theorem next_perm : (front ++ (back ++ n :: rest)).Perm (n :: (front ++ (back ++ rest))) :=
  (List.perm_middle.append_left front).trans List.perm_middle

/-- The next ticket stands once. -/
theorem fresh (h : SweepOrder s k front back (n :: rest)) : n ∉ front ++ (back ++ rest) :=
  (List.nodup_cons.mp (next_perm.nodup_iff.mp h.nodup)).1

/-- The next ticket leaves. -/
theorem drop (h : SweepOrder s k front back (n :: rest)) : SweepOrder s k front back rest := by
  refine ⟨(List.nodup_cons.mp (next_perm.nodup_iff.mp h.nodup)).2, fun m hm => h.own m (next_perm.mem_iff.mpr
    (List.mem_cons_of_mem n hm)), h.stop, h.other, h.rises.sublist ?_⟩
  exact (List.sublist_cons_self n rest).append_left back

/-- A STOP ticket joins the front. -/
theorem toFront (h : SweepOrder s k front back rest) (fresh : n ∉ front ++ (back ++ rest)) (own : s.waitsIn k n = true)
    (stop : rankOf s.tickets n = 0) : SweepOrder s k (front ++ [n]) back rest := by
  have perm : (front ++ [n] ++ (back ++ rest)).Perm (n :: (front ++ (back ++ rest))) := by
    rw [List.append_assoc]
    exact List.perm_middle
  refine ⟨perm.nodup_iff.mpr (List.nodup_cons.mpr ⟨fresh, h.nodup⟩), fun m hm => ?_, fun m hm => ?_, h.other, h.rises⟩
  · rcases List.mem_cons.mp (perm.mem_iff.mp hm) with rfl | hm
    exacts [own, h.own m hm]
  · rcases List.mem_append.mp hm with hm | hm
    · exact h.stop m hm
    · rw [List.mem_singleton.mp hm]
      exact stop

/-- The next ticket stays where it is, behind the STOP tickets. -/
theorem toBack (h : SweepOrder s k front back (n :: rest)) (other : 0 < rankOf s.tickets n) :
    SweepOrder s k front (back ++ [n]) rest := by
  have same : back ++ [n] ++ rest = back ++ n :: rest := by simp
  refine ⟨same ▸ h.nodup, same ▸ h.own, h.stop, fun m hm => ?_, same ▸ h.rises⟩
  rcases List.mem_append.mp hm with hm | hm
  · exact h.other m hm
  · rw [List.mem_singleton.mp hm]
    exact other

/-- Behind a ticket that is not STOP no ticket is. -/
theorem later (h : SweepOrder s k front back (n :: rest)) (other : 0 < rankOf s.tickets n) :
    ∀ m ∈ back ++ rest, 0 < rankOf s.tickets m := by
  intro m hm
  rcases List.mem_append.mp hm with hm | hm
  · exact h.other m hm
  · exact Nat.lt_of_lt_of_le other ((List.pairwise_cons.mp (List.pairwise_append.mp h.rises).2.1).1 m hm)

/-- When the next ticket is STOP no other ticket has aged. -/
theorem back_nil (h : SweepOrder s k front back (n :: rest)) (stop : rankOf s.tickets n = 0) : back = [] := by
  refine List.eq_nil_iff_forall_not_mem.mpr fun m hm => ?_
  have below := (List.pairwise_append.mp h.rises).2.2 m hm n List.mem_cons_self
  have := h.other m hm
  omega

/-- The ageing of a ticket that stands nowhere here keeps the order. -/
theorem age_away (h : SweepOrder s k front back rest) (away : n ∉ front ++ (back ++ rest)) :
    SweepOrder (ageTicket n s).1 k front back rest :=
  h.congr fun m hm => by
    have other := ageTicket_other (fun e : n = m => away (e ▸ hm)) s
    exact ⟨waitsIn_congr other k, rankOf_congr other⟩

end SweepOrder

/-! ### The next ticket of the queue ages -/

section Next

variable {s : Hall} {k n : Nat} {front back rest : List Nat}

theorem filter_next (fresh : n ∉ front ++ (back ++ rest)) :
    (front ++ (back ++ n :: rest)).filter (fun x => x != n) = front ++ (back ++ rest) := by
  simp only [List.mem_append, not_or] at fresh
  obtain ⟨notFront, notBack, notRest⟩ := fresh
  rw [List.filter_append, List.filter_append, filter_head notRest, filter_ne_of_not_mem notFront,
    filter_ne_of_not_mem notBack]

/-- The next ticket ages: it leaves, joins the STOP tickets, or stays behind them. -/
theorem SweepOrder.age (h : SweepOrder s k front back (n :: rest))
    (queue : s.waitQueues.list k = front ++ (back ++ n :: rest)) :
    SweepOrder (ageTicket n s).1 k (front ++ [n].filter s.leads) (back ++ [n].filter s.trails) rest ∧
      (ageTicket n s).1.waitQueues.list k = front ++ [n].filter s.leads ++ (back ++ [n].filter s.trails ++ rest) := by
  obtain ⟨t, ht, rfl⟩ := waitsIn_iff.mp (h.own n (next_perm.mem_iff.mpr List.mem_cons_self))
  obtain ⟨tickets, queues, -⟩ := ageTicket_listed ht
  have rank := rankOf_eq ht
  have without := h.drop.age_away h.fresh
  have listed := (queues t.cls).trans (if_pos rfl)
  have found := (tickets n).trans (if_pos rfl)
  unfold sweptQueue at listed
  unfold sweptTicket at found
  rw [queue, filter_next h.fresh] at listed
  cases ends : expires s.policyOf t with
  | true =>
    rw [ends, if_pos rfl] at listed
    have gone : s.leads n = false ∧ s.trails n = false := by simp [Hall.leads, Hall.trails, Hall.expiresAt, ht, ends]
    simp only [List.filter_cons, gone, Bool.false_eq_true, if_false, List.filter_nil, List.append_nil]
    exact ⟨without, listed⟩
  | false =>
    rw [ends, if_neg Bool.false_ne_true] at listed found
    have own : (ageTicket n s).1.waitsIn t.cls n = true := waitsIn_iff.mpr ⟨_, found, rfl⟩
    have newRank := rankOf_eq found
    by_cases leads : t.band = .stop ∨ promotes s.policyOf t = true
    · have side : s.leads n = true ∧ s.trails n = false := by
        have up : (decide (t.band = .stop) || promotes s.policyOf t) = true := by simpa using leads
        rw [leads_eq ht ends, trails_eq ht ends, up]
        exact ⟨rfl, rfl⟩
      have stop : rankOf (ageTicket n s).1.tickets n = 0 := by
        rw [newRank]
        rcases leads with band | up <;> simp [agedTicket, *, bandRank]
      simp only [List.filter_cons, side, Bool.false_eq_true, if_true, if_false, List.filter_nil, List.append_nil]
      refine ⟨without.toFront h.fresh own stop, listed.trans ?_⟩
      rw [List.append_assoc]
      split
      · rename_i up
        have band : t.band = .plan := by
          obtain ⟨c, -, band, -⟩ := of_decide_eq_true up
          exact band
        have behind := h.later (by rw [rank, band]; decide)
        have same (m : Nat) (hm : m ∈ front ++ (back ++ rest)) :
            rankOf (s.tickets.put n (agedTicket s.policyOf t)) m = rankOf s.tickets m :=
          rankOf_congr (get_put_ne _ _ _ _ fun e => h.fresh (e ▸ hm))
        refine insertByBand_stop (fun m hm => ?_) fun m hm => ?_
        · rw [same m (List.mem_append_left _ hm)]
          exact h.stop m hm
        · rw [same m (List.mem_append_right _ hm)]
          exact behind m hm
      · rename_i waits
        have band := leads.resolve_right waits
        obtain rfl := h.back_nil (by rw [rank, band]; rfl)
        rfl
    · obtain ⟨band, waits⟩ := not_or.mp leads
      have side : s.leads n = false ∧ s.trails n = true := by
        rw [leads_eq ht ends, trails_eq ht ends]
        simp [band, waits]
      have kept : rankOf (ageTicket n s).1.tickets n = rankOf s.tickets n := by
        rw [newRank, rank]
        simp [agedTicket, waits]
      have other : 0 < rankOf (ageTicket n s).1.tickets n := by
        rw [kept, rank]
        cases e : t.band with
        | stop => exact absurd e band
        | plan | stock => decide
      simp only [List.filter_cons, side, Bool.false_eq_true, if_true, if_false, List.filter_nil, List.append_nil]
      refine ⟨SweepOrder.toBack (h.congr fun m hm => ?_) other, by rw [listed, if_neg waits]; simp⟩
      rcases List.mem_cons.mp (next_perm.mem_iff.mp hm) with rfl | hm
      · exact ⟨own.trans (waitsIn_iff.mpr ⟨t, ht, rfl⟩).symm, kept⟩
      · have other := ageTicket_other (fun e : n = m => h.fresh (e ▸ hm)) s
        exact ⟨waitsIn_congr other _, rankOf_congr other⟩

end Next

end Sys2Proof.Machine

/-! ## The wait queues after a sweep (R103) -/

namespace Sys2Proof.Machine

/-! ### The walk -/

/-- What the sweep makes of a ticket depends on the ticket and on the policies. -/
theorem leads_congr {s s' : Hall} {n : Nat} (h : s'.tickets.get n = s.tickets.get n) (policy : s'.policyOf = s.policyOf) :
    s'.leads n = s.leads n ∧ s'.trails n = s.trails n := by
  unfold Hall.leads Hall.trails Hall.expiresAt Hall.promotesAt Hall.bandAt
  rw [h, policy]
  exact ⟨rfl, rfl⟩

/-- A ticket of another class leaves a queue alone. -/
theorem ageTicket_queue_away {s : Hall} {k n : Nat} (away : s.waitsIn k n = false) :
    (ageTicket n s).1.waitQueues.list k = s.waitQueues.list k := by
  cases ht : s.tickets.get n with
  | none => rw [ageTicket_free ht]
  | some t =>
    have other : t.cls ≠ k := by simpa [Hall.waitsIn, ht] using away
    rw [(ageTicket_listed ht).2.1, if_neg other]

/-- The rest of a walk ages: the STOP tickets of a class come to stand in front of its others. -/
theorem ageTickets_queue {l : List Nat} (nodup : l.Nodup) {s : Hall} {k : Nat} {front back : List Nat}
    (h : SweepOrder s k front back (l.filter (s.waitsIn k)))
    (queue : s.waitQueues.list k = front ++ (back ++ l.filter (s.waitsIn k))) :
    (ageTickets l s).1.waitQueues.list k =
      front ++ (l.filter (s.waitsIn k)).filter s.leads ++ (back ++ (l.filter (s.waitsIn k)).filter s.trails) := by
  induction l generalizing s front back with
  | nil => simpa [ageTickets] using queue
  | cons n rest ih =>
    obtain ⟨fresh, nodup⟩ := List.nodup_cons.mp nodup
    have apart (m : Nat) (hm : m ∈ rest) := ageTicket_other (fun e : n = m => fresh (e ▸ hm)) s
    have mine : rest.filter ((ageTicket n s).1.waitsIn k) = rest.filter (s.waitsIn k) :=
      List.filter_congr fun m hm => waitsIn_congr (apart m hm) k
    have sides (m : Nat) (hm : m ∈ rest.filter (s.waitsIn k)) :=
      leads_congr (apart m (List.mem_of_mem_filter hm)) (ageTicket_policyOf n s)
    have leads := List.filter_congr fun m hm => (sides m hm).1
    have trails := List.filter_congr fun m hm => (sides m hm).2
    have walk := ih (s := (ageTicket n s).1) nodup (front := front ++ ([n].filter (s.waitsIn k)).filter s.leads)
      (back := back ++ ([n].filter (s.waitsIn k)).filter s.trails)
    rw [mine, leads, trails] at walk
    have split : (n :: rest).filter (s.waitsIn k) = [n].filter (s.waitsIn k) ++ rest.filter (s.waitsIn k) :=
      List.filter_append (l₁ := [n]) ..
    rw [split] at h queue ⊢
    have arrives : SweepOrder (ageTicket n s).1 k (front ++ ([n].filter (s.waitsIn k)).filter s.leads)
        (back ++ ([n].filter (s.waitsIn k)).filter s.trails) (rest.filter (s.waitsIn k)) ∧
        (ageTicket n s).1.waitQueues.list k = front ++ ([n].filter (s.waitsIn k)).filter s.leads ++
          (back ++ ([n].filter (s.waitsIn k)).filter s.trails ++ rest.filter (s.waitsIn k)) := by
      cases here : s.waitsIn k n with
      | true =>
        have one : [n].filter (s.waitsIn k) = [n] := by simp [here]
        rw [one] at h queue ⊢
        exact h.age queue
      | false =>
        have none : [n].filter (s.waitsIn k) = [] := by simp [here]
        rw [none] at h queue ⊢
        simp only [List.filter_nil, List.append_nil]
        refine ⟨h.age_away fun hm => ?_, (ageTicket_queue_away here).trans queue⟩
        have := h.own n hm
        simp [here] at this
    rw [ageTickets_cons, walk arrives.1 arrives.2]
    simp only [List.filter_append, List.append_assoc]

/-! ### The queues of a hall that meets its law -/

/-- What a table of lists holds of one key, when the entries show their key. -/
theorem filter_flatMap_lists {t : Table (List Nat)} (wf : t.wf) {k : Nat} {p : Nat → Bool}
    (shows : ∀ e ∈ t, ∀ x ∈ e.2, p x = decide (e.1 = k)) : (t.flatMap Prod.snd).filter p = t.list k := by
  induction t with
  | nil => rfl
  | cons e rest ih =>
    obtain ⟨key, l⟩ := e
    obtain ⟨first, later⟩ := List.pairwise_cons.mp wf
    have own := shows (key, l) List.mem_cons_self
    rw [List.flatMap_cons, List.filter_append, ih later fun e he => shows e (List.mem_cons_of_mem _ he)]
    unfold Table.list
    by_cases here : key = k
    · have none : Table.get rest k = none := by
        refine Option.eq_none_iff_forall_ne_some.mpr fun v hv => ?_
        have := first _ (mem_of_get rest k v hv)
        simp only at this
        omega
      rw [List.filter_eq_self.mpr fun x hx => by simp [own x hx, here]]
      simp [Table.get, here, none]
    · rw [List.filter_eq_nil_iff.mpr fun x hx => by simp [own x hx, here]]
      simp [Table.get, here]

theorem IssueLaw.waitsIn {s : Hall} (h : IssueLaw s) {k n : Nat} (hn : n ∈ s.waitQueues.list k) :
    ∃ t, s.tickets.get n = some t ∧ t.cls = k := by
  obtain ⟨t, ht, -, cls⟩ := (h.waiting k n).mp hn
  exact ⟨t, ht, cls⟩

theorem nodup_waiting {s : Hall} (wf : s.waitQueues.wf) (h : IssueLaw s) :
    (s.waitQueues.flatMap Prod.snd).Nodup :=
  nodup_flatMap_lists wf h.waitNodup fun j k n hj hk => by
    obtain ⟨t, ht, rfl⟩ := h.waitsIn hj
    obtain ⟨u, hu, rfl⟩ := h.waitsIn hk
    rw [Option.some.inj (ht.symm.trans hu)]

theorem filter_waiting {s : Hall} (wf : s.waitQueues.wf) (h : IssueLaw s) (k : Nat) :
    (s.waitQueues.flatMap Prod.snd).filter (s.waitsIn k) = s.waitQueues.list k :=
  filter_flatMap_lists wf fun e he x hx => by
    obtain ⟨t, ht, cls⟩ := h.waitsIn (k := e.1) (n := x) (by rw [Table.list, get_of_mem wf he]; exact hx)
    simp [Hall.waitsIn, ht, cls]

/-- A queue before the sweep: every ticket is still to come. -/
theorem IssueLaw.sweepOrder {s : Hall} (h : IssueLaw s) (k : Nat) : SweepOrder s k [] [] (s.waitQueues.list k) := by
  refine ⟨h.waitNodup k, fun n hn => waitsIn_iff.mpr (h.waitsIn hn), nofun, nofun,
    (h.waitBands k).imp_of_mem fun {a b} ha hb rises => ?_⟩
  obtain ⟨ta, hta, -⟩ := h.waitsIn ha
  obtain ⟨tb, htb, -⟩ := h.waitsIn hb
  rw [rankOf_eq hta, rankOf_eq htb]
  exact (band_le_iff ..).mp (rises ta hta tb htb)

/-- A list in rising order has what lies up to a bound in front of what lies above it. -/
theorem filter_or_of_rises {rank : Nat → Nat} {l : List Nat} (rises : l.Pairwise fun a b => rank a ≤ rank b)
    {p q : Nat → Bool} (bound : Nat) (low : ∀ x ∈ l, p x = true → rank x ≤ bound)
    (high : ∀ x ∈ l, q x = true → bound < rank x) :
    l.filter (fun x => p x || q x) = l.filter p ++ l.filter q := by
  induction l with
  | nil => rfl
  | cons x rest ih =>
    obtain ⟨first, later⟩ := List.pairwise_cons.mp rises
    have tail := ih later (fun y hy => low y (List.mem_cons_of_mem _ hy)) fun y hy => high y (List.mem_cons_of_mem _ hy)
    rw [List.filter_cons, tail]
    cases hq : q x with
    | true =>
      have above := high x List.mem_cons_self hq
      have none (y : Nat) (hy : y ∈ x :: rest) : ¬p y = true := fun hp => by
        have below := low y hy hp
        rcases List.mem_cons.mp hy with rfl | hy
        · omega
        · have := first y hy
          omega
      rw [List.filter_eq_nil_iff.mpr none, List.filter_eq_nil_iff.mpr fun y hy => none y (List.mem_cons_of_mem _ hy)]
      simp [hq]
    | false =>
      cases hp : p x <;> simp [hp, hq]

/-- A wait queue after a sweep: STOP, promoted PLAN, other PLAN and STOCK, each in the order they stood. -/
theorem sweepTickets_queue {s : Hall} (wf : s.waitQueues.wf) (h : IssueLaw s) (k : Nat) :
    (sweepTickets s).1.waitQueues.list k =
      ((s.waitQueues.list k).filter fun n => !s.expiresAt n).filter (s.bandAt .stop) ++
        ((s.waitQueues.list k).filter fun n => !s.expiresAt n).filter s.promotesAt ++
        ((s.waitQueues.list k).filter fun n => !s.expiresAt n).filter (fun n => s.bandAt .plan n && !s.promotesAt n) ++
        ((s.waitQueues.list k).filter fun n => !s.expiresAt n).filter (s.bandAt .stock) := by
  have mine := filter_waiting wf h k
  have start := h.sweepOrder k
  have walk := ageTickets_queue (nodup_waiting wf h) (front := []) (back := []) (mine.symm ▸ start) mine.symm
  rw [mine] at walk
  have queue : ((s.waitQueues.list k).filter fun n => !s.expiresAt n).Pairwise
      fun a b => rankOf s.tickets a ≤ rankOf s.tickets b := List.Pairwise.filter _ start.rises
  generalize hl : (s.waitQueues.list k).filter (fun n => !s.expiresAt n) = l at queue ⊢
  have listed (n : Nat) (hn : n ∈ l) : ∃ t, s.tickets.get n = some t := by
    obtain ⟨t, ht, -⟩ := h.waitsIn (List.mem_of_mem_filter (hl ▸ hn))
    exact ⟨t, ht⟩
  have bandRankAt (b : Band) (n : Nat) (hb : s.bandAt b n = true) : rankOf s.tickets n = bandRank b := by
    obtain ⟨t, ht, e⟩ := (Option.any_eq_true ..).mp hb
    rw [rankOf_eq ht, of_decide_eq_true e]
  have promotedRank (n : Nat) (hp : s.promotesAt n = true) : rankOf s.tickets n = 1 := by
    obtain ⟨t, ht, e⟩ := (Option.any_eq_true ..).mp hp
    obtain ⟨c, -, band, -⟩ := of_decide_eq_true e
    rw [rankOf_eq ht, band]
    rfl
  have front : (s.waitQueues.list k).filter s.leads = l.filter (s.bandAt .stop) ++ l.filter s.promotesAt := by
    rw [← filter_or_of_rises queue 0 (fun n _ hn => (bandRankAt .stop n hn).le)
      (fun n _ hn => by rw [promotedRank n hn]; exact Nat.one_pos), ← hl, List.filter_filter]
    exact List.filter_congr fun n _ => Bool.and_comm ..
  have back : (s.waitQueues.list k).filter s.trails =
      l.filter (fun n => s.bandAt .plan n && !s.promotesAt n) ++ l.filter (s.bandAt .stock) := by
    rw [← filter_or_of_rises queue 1 (fun n _ hn => (bandRankAt .plan n (Bool.and_eq_true_iff.mp hn).1).le)
      (fun n _ hn => by rw [bandRankAt _ n hn]; decide), ← hl, List.filter_filter]
    refine List.filter_congr fun n hn => ?_
    obtain ⟨t, ht, -⟩ := h.waitsIn hn
    rw [Hall.trails, Bool.and_comm (_ || _)]
    refine congrArg (!s.expiresAt n && ·) ?_
    have notStop (up : promotes s.policyOf t = true) : t.band = .plan := (of_decide_eq_true up).choose_spec.2.1
    simp only [Hall.bandAt, Hall.promotesAt, ht, Option.any_some]
    cases band : t.band <;> cases up : promotes s.policyOf t <;> simp_all
  refine walk.trans ?_
  rw [front, back]
  simp only [List.nil_append, List.append_assoc]

end Sys2Proof.Machine

/-! ## The sweep (R103, R175, R177 to R180) -/

namespace Sys2Proof.Machine

/-! ### The hall after a sweep -/

section Event

variable {s : Hall}

/-- A sweep begins a new interval and changes records, chains, classes, tickets, wait queues and flags, and no more. -/
theorem sweepEvent_only (s : Hall) : ∃ records chains classes tickets waitQueues flags, (sweepEvent s).1 =
    { s with
      sweep := ⟨s.sweep.period, s.sweep.period, 0⟩, records := records, chains := chains, classes := classes,
      tickets := tickets, waitQueues := waitQueues, flags := flags } := by
  obtain ⟨records, chains, classes, flags, life⟩ := ageRecords_only s.records.keys (newInterval s)
  obtain ⟨tickets, waitQueues, issue⟩ := ageTickets_only
    ((ageRecords s.records.keys (newInterval s)).1.waitQueues.flatMap Prod.snd)
    (ageRecords s.records.keys (newInterval s)).1
  exact ⟨records, chains, classes, tickets, waitQueues, flags, by rw [sweepEvent, sweepTickets, issue, life]; rfl⟩

/-- The hall that the issue unit's part finds. -/
def afterLife (s : Hall) : Hall := (ageRecords s.records.keys (newInterval s)).1

theorem sweepEvent_eq (s : Hall) : sweepEvent s = ((sweepTickets (afterLife s)).1,
    (ageRecords s.records.keys (newInterval s)).2 ++ (sweepTickets (afterLife s)).2) := rfl

theorem afterLife_tickets (s : Hall) : (afterLife s).tickets = s.tickets ∧ (afterLife s).waitQueues = s.waitQueues := by
  obtain ⟨records, chains, classes, flags, life⟩ := ageRecords_only s.records.keys (newInterval s)
  rw [afterLife, life]
  exact ⟨rfl, rfl⟩

theorem afterLife_policyOf (s : Hall) : (afterLife s).policyOf = s.policyOf :=
  ageRecords_policyOf s.records.keys (newInterval s)

/-- The issue unit's part leaves what the life unit's part made. -/
theorem sweepEvent_life (s : Hall) : (sweepEvent s).1.records = (afterLife s).records ∧
    (sweepEvent s).1.chains = (afterLife s).chains ∧ (sweepEvent s).1.classes = (afterLife s).classes ∧
      (sweepEvent s).1.flags = (afterLife s).flags := by
  obtain ⟨tickets, waitQueues, issue⟩ := ageTickets_only ((afterLife s).waitQueues.flatMap Prod.snd) (afterLife s)
  rw [sweepEvent_eq, sweepTickets, issue]
  exact ⟨rfl, rfl, rfl, rfl⟩

/-- Every record is left as the sweep leaves it. -/
theorem sweepEvent_record (wf : s.records.wf) (slot : Nat) :
    (sweepEvent s).1.records.get slot = (s.records.get slot).map (sweptRecord s.policyOf) := by
  rw [(sweepEvent_life s).1, afterLife, ageRecords_get (nodup_keys wf)]
  split
  · rfl
  · rename_i free
    cases h : s.records.get slot with
    | none => exact h
    | some r => exact absurd (mem_keys_of_get h) free

/-- Every waiting ticket is left as the sweep leaves it. -/
theorem sweepEvent_ticket (nodup : (s.waitQueues.flatMap Prod.snd).Nodup) (n : Nat) :
    (sweepEvent s).1.tickets.get n =
      if n ∈ s.waitQueues.flatMap Prod.snd then (s.tickets.get n).bind (sweptTicket s.policyOf)
      else s.tickets.get n := by
  obtain ⟨tickets, waitQueues⟩ := afterLife_tickets s
  rw [sweepEvent_eq, sweepTickets, ageTickets_get (waitQueues ▸ nodup), afterLife_policyOf, tickets, waitQueues]

end Event

/-! ### The records and tickets by the limits of their class -/

section Limits

variable {p : Nat → Option Policy}

theorem expires_iff {t : Ticket} {c : Policy} (hc : p t.cls = some c) :
    expires p t = true ↔ 0 < c.waitLimit ∧ c.waitLimit ≤ ageUp t.age := by simp [expires, hc]

theorem promotes_iff {t : Ticket} {c : Policy} (hc : p t.cls = some c) :
    promotes p t = true ↔ t.band = .plan ∧ 0 < c.promotionAge ∧ c.promotionAge ≤ ageUp t.age := by
  simp [promotes, hc]

theorem goesStale_class {r : Record} {c : Policy} (hc : p r.cls = some c) : goesStale p r = true ↔
    r.status = .ready ∧ ∃ g m, r.ageMeasurement.measured = some (g, m) ∧ 0 < c.validity ∧ c.validity ≤ m.age := by
  rw [goesStale_iff, ageMeasurement_eq]
  cases r.measured <;> simp [hc]

/-- An OUT record. -/
theorem sweptRecord_out {r : Record} (out : r.status = .out) :
    sweptRecord p r = { r.ageMeasurement with outAge := ageUp r.outAge, overdue := r.overdue || isLate p r } := by
  have kept : goesStale p r = false := by simp [goesStale, out]
  unfold sweptRecord
  rw [kept, ageMeasurement_eq]
  simp [out]

theorem isLate_iff {r : Record} {c : Policy} (hc : p r.cls = some c) (out : r.status = .out) :
    isLate p r = true ↔ 0 < c.outLimit ∧ c.outLimit ≤ ageUp r.outAge := by simp [isLate, hc, out]

end Limits

/-! ### A hall that meets its law -/

section Law

variable {s : Hall}

theorem CountsOk.marks {count : Nat → Nat} {classes : Table ClassEntry} (h : CountsOk count classes) :
    MarksTrue classes := fun cls c hc => (h cls c hc).2

/-- The number of tools of a class that a sweep holds. -/
def Hall.lost (s : Hall) (cls : Nat) : Nat :=
  s.records.count fun r => goesStale s.policyOf r && decide (r.cls = cls)

theorem sweepEvent_chains (tables : TablesLaw s) (store : StoreLaw s) (cls : Nat) : (sweepEvent s).1.chains.list cls =
    (s.chains.list cls).filter fun slot => decide (¬∃ r ∈ s.records.get slot, goesStale s.policyOf r = true) := by
  rw [(sweepEvent_life s).2.1]
  exact ageRecords_chains_keys (s := newInterval s) tables.records store.chains cls

theorem sweepEvent_classes (tables : TablesLaw s) (store : StoreLaw s) {cls : Nat} {c : ClassEntry}
    (hc : s.classes.get cls = some c) : (sweepEvent s).1.classes.get cls = some (lessUsable (s.lost cls) c) := by
  rw [(sweepEvent_life s).2.2.1, Hall.lost, ← lostAmong_keys tables.records]
  exact ageRecords_classes (s := newInterval s) (nodup_keys tables.records) store.counts.marks hc

/-- What the sweep makes of a ticket depends on the tickets and on the policies. -/
theorem sides_congr {s' : Hall} (tickets : s'.tickets = s.tickets) (policy : s'.policyOf = s.policyOf) :
    s'.expiresAt = s.expiresAt ∧ s'.promotesAt = s.promotesAt ∧ s'.bandAt = s.bandAt := by
  unfold Hall.expiresAt Hall.promotesAt Hall.bandAt
  rw [tickets, policy]
  exact ⟨rfl, rfl, rfl⟩

theorem HallLaw.afterLife (h : HallLaw s) : HallLaw (afterLife s) :=
  ((Effect.sweepTimer _ s).trans (ageRecords_effect _ _)).hallLaw h

theorem sweepEvent_queue (h : HallLaw s) (k : Nat) :
    (sweepEvent s).1.waitQueues.list k =
      ((s.waitQueues.list k).filter fun n => !s.expiresAt n).filter (s.bandAt .stop) ++
        ((s.waitQueues.list k).filter fun n => !s.expiresAt n).filter s.promotesAt ++
        ((s.waitQueues.list k).filter fun n => !s.expiresAt n).filter (fun n => s.bandAt .plan n && !s.promotesAt n) ++
        ((s.waitQueues.list k).filter fun n => !s.expiresAt n).filter (s.bandAt .stock) := by
  obtain ⟨tickets, waitQueues⟩ := afterLife_tickets s
  obtain ⟨ends, rises, bands⟩ := sides_congr tickets (afterLife_policyOf s)
  have law := h.afterLife
  rw [sweepEvent_eq, sweepTickets_queue law.tables.waitQueues law.units.issue, waitQueues, ends, rises, bands]

/-- The notices of the life unit's part of a sweep. -/
def lifeNotices (s : Hall) : List Notice := (ageRecords s.records.keys (newInterval s)).2

theorem lifeNotices_overdue (tables : TablesLaw s) : (lifeNotices s).filter (fun x => decide (x.kind = .overdue)) =
    s.records.filterMap fun e => lateNotice s.policyOf e.1 e.2 :=
  (ageRecords_overdue (nodup_keys tables.records) (newInterval s)).trans (lateAt_keys (s := newInterval s) tables.records)

theorem lifeNotices_low (tables : TablesLaw s) (store : StoreLaw s) :
    ((lifeNotices s).filter fun x => decide (x.kind ≠ .overdue)).Perm
      (s.classes.filterMap fun e => lowNotice (s.lost e.1) e.1 e.2) := by
  simp only [Hall.lost, ← lostAmong_keys tables.records]
  exact ageRecords_lowStock (s := newInterval s) (nodup_keys tables.records) tables.classes store.counts.marks

theorem sweepEvent_flags (s : Hall) : (sweepEvent s).1.flags = s.flags ||| sweepFlags (lifeNotices s) :=
  (sweepEvent_life s).2.2.2.trans (ageRecords_flags s.records.keys (newInterval s))

theorem sweepEvent_notices (nodup : (s.waitQueues.flatMap Prod.snd).Nodup) : (sweepEvent s).2 = lifeNotices s ++
    (s.waitQueues.flatMap Prod.snd).filterMap fun n => (s.tickets.get n).bind (expiry s.policyOf n) := by
  obtain ⟨tickets, waitQueues⟩ := afterLife_tickets s
  rw [sweepEvent_eq, sweepTickets, ageTickets_notices (waitQueues ▸ nodup), afterLife_policyOf, tickets, waitQueues]
  rfl

end Law

/-! ### The sweep at the port -/

/-- A sweep is the hall's event, but for the OVERRUN flag when the outbound queue cannot hold the notices. -/
theorem exec_sweep (s : State) : ∃ t, exec .sweep s = .next t ∧
    (∃ flags, t.hall = { (sweepEvent s.hall).1 with flags := flags }) ∧
    (s.roomFor 0 →
      t.port.outbound = (s.port.outbound ++ (sweepEvent s.hall).2.map OutMessage.notice).take (32 - s.port.kept) ∧
      t.hall.flags = (sweepEvent s.hall).1.flags |||
        if s.roomFor (sweepEvent s.hall).2.length then 0 else 0x01#7) := by
  refine ⟨drivePins (takeEvent sweepEvent s), rfl, ?_, fun lawful => ?_⟩
  · obtain ⟨-, -, -, -, -, -, same | flagged⟩ :=
      placeNotices_frame (sweepEvent s.hall).2 { s with hall := (sweepEvent s.hall).1 }
    · exact ⟨_, same⟩
    · exact ⟨_, flagged⟩
  · obtain ⟨outbound, hall⟩ := placeNotices_take (sweepEvent s.hall).2 { s with hall := (sweepEvent s.hall).1 } lawful
    refine ⟨outbound, (congrArg Hall.flags hall).trans ?_⟩
    by_cases room : s.roomFor (sweepEvent s.hall).2.length
    · rw [if_pos room, if_pos (by exact room)]
      exact BitVec.or_zero.symm
    · rw [if_neg room, if_neg (by exact room)]
      rfl

/-! ### The statement -/

theorem policyOf_of_get {s : Hall} {cls : Nat} {c : ClassEntry} (h : s.classes.get cls = some c) :
    s.policyOf cls = some c.policy := by
  unfold Hall.policyOf
  rw [h, Option.map_some]

/-- The record of a slot after a sweep, by its state and by the limits of its class. -/
theorem sweptRecord_spec {p : Nat → Option Policy} {r : Record} {c : Policy} (hc : p r.cls = some c) :
    let aged := r.ageMeasurement
    let stale := ∃ g m, aged.measured = some (g, m) ∧ 0 < c.validity ∧ c.validity ≤ m.age
    let late := 0 < c.outLimit ∧ c.outLimit ≤ ageUp r.outAge
    (r.status = .ready → stale → sweptRecord p r = { aged with status := .held .stale }) ∧
      (r.status = .ready → ¬stale → sweptRecord p r = aged) ∧
      (r.status = .out → late → sweptRecord p r = { aged with outAge := ageUp r.outAge, overdue := true }) ∧
      (r.status = .out → ¬late → sweptRecord p r = { aged with outAge := ageUp r.outAge }) ∧
      (r.status ≠ .ready → r.status ≠ .out → sweptRecord p r = aged) := by
  have kept (h : ¬(r.status = .ready ∧ ∃ g m, r.ageMeasurement.measured = some (g, m) ∧ 0 < c.validity ∧
      c.validity ≤ m.age)) : goesStale p r = false := Bool.eq_false_iff.mpr fun e => h ((goesStale_class hc).mp e)
  refine ⟨fun ready stale => sweptRecord_stale ((goesStale_class hc).mpr ⟨ready, stale⟩), fun ready fresh => ?_,
    fun out late => ?_, fun out early => ?_, fun notReady notOut => ?_⟩
  · exact sweptRecord_of_not_out (kept fun h => fresh h.2) (by rw [ready]; decide)
  · rw [sweptRecord_out out, (isLate_iff hc out).mpr late, Bool.or_true]
  · rw [sweptRecord_out out, Bool.eq_false_iff.mpr fun e => early ((isLate_iff hc out).mp e), Bool.or_false,
      ageMeasurement_eq]
  · exact sweptRecord_of_not_out (kept fun h => notReady h.1) notOut

/-- A waiting ticket after a sweep, by the limits of its class. -/
theorem sweptTicket_spec {p : Nat → Option Policy} {t : Ticket} {c : Policy} (hc : p t.cls = some c) :
    let expired := 0 < c.waitLimit ∧ c.waitLimit ≤ ageUp t.age
    let promoted := t.band = .plan ∧ 0 < c.promotionAge ∧ c.promotionAge ≤ ageUp t.age
    (expired → sweptTicket p t = none) ∧
      (¬expired → promoted → sweptTicket p t = some { t with age := ageUp t.age, band := .stop }) ∧
      (¬expired → ¬promoted → sweptTicket p t = some { t with age := ageUp t.age }) := by
  unfold sweptTicket agedTicket
  refine ⟨fun ends => if_pos ((expires_iff hc).mpr ends), fun stays up => ?_, fun stays waits => ?_⟩
  · rw [if_neg fun e => stays ((expires_iff hc).mp e), if_pos ((promotes_iff hc).mpr up)]
  · rw [if_neg fun e => stays ((expires_iff hc).mp e), if_neg fun e => waits ((promotes_iff hc).mp e)]

/-! ### By the class entries -/

section Entries

variable (s : Hall)

theorem goesStale_eq : goesStale s.policyOf = fun r => decide (r.status = .ready ∧ ∃ c ∈ s.classes.get r.cls,
    ∃ x ∈ r.measured, 0 < c.policy.validity ∧ c.policy.validity ≤ ageUp x.2.age) := by
  funext r
  refine decide_eq_decide.mpr ?_
  simp [Hall.policyOf]

theorem expiresAt_eq : s.expiresAt = fun n => decide (∃ u ∈ s.tickets.get n, ∃ c ∈ s.classes.get u.cls,
    0 < c.policy.waitLimit ∧ c.policy.waitLimit ≤ ageUp u.age) := by
  funext n
  unfold Hall.expiresAt expires Hall.policyOf
  cases s.tickets.get n <;> simp

theorem promotesAt_eq : s.promotesAt = fun n => decide (∃ u ∈ s.tickets.get n, ∃ c ∈ s.classes.get u.cls,
    u.band = .plan ∧ 0 < c.policy.promotionAge ∧ c.policy.promotionAge ≤ ageUp u.age) := by
  funext n
  unfold Hall.promotesAt promotes Hall.policyOf
  cases s.tickets.get n <;> simp

theorem bandAt_eq : s.bandAt = fun b n => decide (∃ u ∈ s.tickets.get n, u.band = b) := by
  funext b n
  unfold Hall.bandAt
  cases s.tickets.get n <;> simp

theorem lateNotice_eq (slot : Nat) (r : Record) : lateNotice s.policyOf slot r = (s.classes.get r.cls).bind fun c =>
    if r.status = .out ∧ r.overdue = false ∧ 0 < c.policy.outLimit ∧ c.policy.outLimit ≤ ageUp r.outAge then
      some ⟨.overdue, 255#8, [natWord r.tool, natWord slot, natWord r.cls, natWord (r.dest.getD 0),
        natWord (ageUp r.outAge), natWord c.policy.outLimit]⟩
    else none := by
  unfold lateNotice Hall.policyOf
  rw [Option.bind_map]
  rfl

theorem expiry_eq (n : Nat) : (s.tickets.get n).bind (expiry s.policyOf n) = (s.tickets.get n).bind fun u =>
    if s.expiresAt n then
      some ⟨.expired, BitVec.ofNat 8 u.requester,
        [natWord n, u.tag, natWord u.cls, natWord u.band.code, natWord (ageUp u.age)]⟩
    else none := by
  unfold expiry Hall.expiresAt
  cases s.tickets.get n <;> rfl

end Entries

/-- The flags of the notices, by which classes become low and which tools become overdue. -/
theorem sweepFlags_eq {notices late low : List Notice} (overdue : notices.filter (fun x => decide (x.kind = .overdue)) = late)
    (others : (notices.filter fun x => decide (x.kind ≠ .overdue)).Perm low) :
    sweepFlags notices = (if late = [] then 0 else 0x10#7) ||| (if low = [] then 0 else 0x08#7) := by
  have empty : notices.filter (fun x => decide (x.kind ≠ .overdue)) = [] ↔ low = [] := by
    rw [← List.length_eq_zero_iff, others.length_eq, List.length_eq_zero_iff]
  unfold sweepFlags
  rw [overdue]
  simp only [empty]

/-- Settles O60: the life unit's part walks over the slots and the issue unit's part over the wait queues. -/
theorem sweepAgesToolsAndTickets : Obligations.SweepAgesToolsAndTickets := by
  intro s tables nodup up
  obtain ⟨t, ran, ⟨flags, hall⟩, port⟩ := exec_sweep s
  obtain ⟨records, chains, classes, tickets, waitQueues, flags', only⟩ := sweepEvent_only s.hall
  have record (slot : Nat) : t.hall.records.get slot = (s.hall.records.get slot).map (sweptRecord s.hall.policyOf) := by
    rw [hall]
    exact sweepEvent_record tables.records slot
  have ticket (n : Nat) := sweepEvent_ticket nodup n
  have frame : t.hall = { s.hall with
      sweep := ⟨s.hall.sweep.period, s.hall.sweep.period, 0⟩, records := records, chains := chains, classes := classes,
      tickets := tickets, waitQueues := waitQueues, flags := flags } := by rw [hall, only]
  refine ⟨t, ran, by rw [frame], fun slot free => by rw [record, free]; rfl, fun slot r c hr hc => ?_,
    fun n away => ?_, fun n u c listed hu hc => ?_, by rw [frame], by rw [frame], by rw [frame], by rw [frame],
    by rw [frame], by rw [frame], by rw [frame], by rw [frame], fun law lawful => ?_⟩
  · have spec := sweptRecord_spec (policyOf_of_get hc)
    rw [record, hr, Option.map_some]
    simp only [Option.some.injEq]
    rw [ageMeasurement_eq] at spec
    exact spec
  · rw [hall]
    exact (ticket n).trans (if_neg away)
  · have found : t.hall.tickets.get n = sweptTicket s.hall.policyOf u := by
      rw [hall]
      exact (ticket n).trans (by rw [if_pos listed, hu, Option.bind_some])
    rw [found]
    exact sweptTicket_spec (policyOf_of_get hc)
  · intro held lost expired promoted inBand overdue low ended
    have isHeld : s.hall.lost = lost := by
      funext cls
      rw [Hall.lost, goesStale_eq]
      rfl
    have isExpired : s.hall.expiresAt = expired := expiresAt_eq s.hall
    have isPromoted : s.hall.promotesAt = promoted := promotesAt_eq s.hall
    have isBand : s.hall.bandAt = inBand := bandAt_eq s.hall
    have isOverdue : (s.hall.records.filterMap fun e => lateNotice s.hall.policyOf e.1 e.2) = overdue :=
      List.filterMap_congr fun e _ => lateNotice_eq s.hall e.1 e.2
    have isLow : (s.hall.classes.filterMap fun e => lowNotice (s.hall.lost e.1) e.1 e.2) = low := by
      rw [isHeld]
      rfl
    have isEnded : ((s.hall.waitQueues.flatMap Prod.snd).filterMap fun n =>
        (s.hall.tickets.get n).bind (expiry s.hall.policyOf n)) = ended := by
      simp only [expiry_eq, isExpired]
      rfl
    obtain ⟨outbound, flagged⟩ := port lawful
    have late := (lifeNotices_overdue tables).trans isOverdue
    have lows := isLow ▸ lifeNotices_low tables law.units.store
    rw [sweepEvent_notices nodup, isEnded] at outbound flagged
    refine ⟨fun cls => ?_, fun cls c hc => ?_, fun cls => ?_, lifeNotices s.hall, late, lows, outbound, ?_⟩
    · rw [hall]
      refine (sweepEvent_chains tables law.units.store cls).trans ?_
      rw [goesStale_eq]
      rfl
    · rw [hall, ← isHeld]
      exact sweepEvent_classes tables law.units.store hc
    · rw [hall, ← isExpired, ← isPromoted, ← isBand]
      exact sweepEvent_queue law cls
    · rw [flagged, sweepEvent_flags, sweepFlags_eq late lows]
      simp only [BitVec.or_assoc]

end Sys2Proof.Machine

/-! ## The law of the port (R125, R186 to R188, R190, R195, R198) -/

namespace Sys2Proof.Machine

/-! ### The inbound queue while words are written -/

theorem inboundOk_cons {m : List Word} {rest : List (List Word)} (h : inboundOk (m :: rest) = true) :
    inboundOk rest = true := by
  cases rest with
  | nil => rfl
  | cons n rest =>
    simp only [inboundOk, Bool.and_eq_true] at h
    exact h.2

/-- A whole message may stand before any queue of the right form. -/
theorem inboundOk_whole {m : List Word} {rest : List (List Word)} (whole : oneMessage m = true)
    (h : inboundOk rest = true) : inboundOk (m :: rest) = true := by
  cases rest with
  | nil => simp [inboundOk, whole]
  | cons n rest => simp [inboundOk, whole, h]

/-- The next word of a partly written message completes it or leaves it partly written. -/
theorem partlyWritten_snoc {m : List Word} (w : Word) (h : partlyWritten m = true) :
    oneMessage (m ++ [w]) = true ∨ partlyWritten (m ++ [w]) = true := by
  cases m with
  | nil => cases h
  | cons first rest =>
    simp only [partlyWritten, oneMessage, List.cons_append, List.length_append, List.length_cons, List.length_nil,
      decide_eq_true_eq] at h ⊢
    omega

/-- A word written leaves whole messages of which the newest may be partly written (R186). -/
theorem inboundOk_writeInto (w : Word) {queue : List (List Word)} (h : inboundOk queue = true) :
    inboundOk (writeInto w queue) = true := by
  induction queue with
  | nil => simp [writeInto, inboundOk, partlyWritten]
  | cons m rest ih =>
    cases rest with
    | nil =>
      unfold writeInto
      split
      · rename_i whole
        exact inboundOk_whole whole (by simp [inboundOk, partlyWritten])
      · rename_i unfinished
        simp only [inboundOk, Bool.or_eq_true] at h ⊢
        exact partlyWritten_snoc w (h.resolve_left unfinished)
    | cons n rest =>
      simp only [inboundOk, Bool.and_eq_true] at h
      exact inboundOk_whole h.1 (ih h.2)

/-- A word takes a place of its own unless the newest message still takes words. -/
theorem length_writeInto (w : Word) (queue : List (List Word)) :
    (writeInto w queue).length = queue.length + if newestPartial queue then 0 else 1 := by
  induction queue with
  | nil => rfl
  | cons m rest ih =>
    cases rest with
    | nil => cases whole : oneMessage m <;> simp [writeInto, newestPartial, whole]
    | cons n rest =>
      change (writeInto w (n :: rest)).length + 1 = (n :: rest).length + 1 + if newestPartial (n :: rest) then 0 else 1
      omega

/-- A word that counts finds a place (R186). -/
theorem length_writeInto_of_ready (w : Word) {p : Port} (places : p.inbound.length ≤ 16) (ready : p.readyLine = true) :
    (writeInto w p.inbound).length ≤ 16 := by
  rw [Port.readyLine, Bool.or_eq_true] at ready
  rw [length_writeInto]
  split
  · exact places
  · rename_i whole
    have room : p.inbound.length < 16 := of_decide_eq_true (ready.resolve_right whole)
    omega

/-! ### The parts of the law -/

/-- The law of the port but for the lines and for a message that may be taken: what holds before the port looks for a
message to take. -/
structure Port.Sound (p : Port) : Prop where
  inboundPlaces : p.inbound.length ≤ 16
  inboundForm : inboundOk p.inbound = true
  outboundPlaces : p.outbound.length + p.kept ≤ 32
  reading : ∀ m ∈ p.outbound.head?, p.readCount < m.words.length
  noReading : p.outbound = [] → p.readCount = 0
  serving : p.serving.isSome = true → p.start = .none

/-- The law of the port but for the lines: no message is left untaken that may be taken. -/
structure Port.AtRest (p : Port) : Prop extends p.Sound where
  nothingLeft : p.takeable = false

theorem PortLaw.atRest {s : State} (h : PortLaw s) : s.port.AtRest :=
  ⟨⟨h.inboundPlaces, h.inboundForm, h.outboundPlaces, h.reading, h.noReading, h.serving⟩, h.nothingLeft⟩

/-- Driving the lines is all that the law asks for beside. -/
theorem Port.AtRest.drivePins {s : State} (h : s.port.AtRest) : PortLaw (drivePins s) :=
  ⟨h.inboundPlaces, h.inboundForm, h.outboundPlaces, h.nothingLeft, h.reading, h.noReading, h.serving, rfl⟩

theorem mayTake_iff {p : Port} :
    p.mayTake = true ↔ p.serving = none ∧ p.start = .none ∧ p.outbound.length + 4 ≤ 32 := by
  simp [Port.mayTake, Config.takingPlaces, Config.outboundPlaces, and_assoc]

theorem takeable_of_empty {p : Port} (h : p.inbound = []) : p.takeable = false := by
  unfold Port.takeable
  rw [h]

/-- A port that may take no message leaves none that it may take. -/
theorem takeable_of_not_mayTake {p : Port} (h : p.mayTake = false) : p.takeable = false := by
  unfold Port.takeable
  split
  · rfl
  · rw [h, Bool.and_false]

/-- A port after a start: nothing waits in either queue. -/
theorem Port.AtRest.afterStart (p : Port) : p.afterStart.AtRest where
  inboundPlaces := Nat.zero_le _
  inboundForm := rfl
  outboundPlaces := Nat.zero_le _
  reading := nofun
  noReading _ := rfl
  serving := nofun
  nothingLeft := rfl

theorem kept_le_one (p : Port) : p.kept ≤ 1 := by
  unfold Port.kept
  split <;> omega

/-- A message has a header of two words (R203). -/
theorem words_length (m : OutMessage) : 2 ≤ m.words.length := by
  cases m <;> simp [OutMessage.words]

/-! ### Taking a message -/

/-- A whole message has a header of two words. -/
theorem oneMessage_header {m : List Word} (h : oneMessage m = true) : ∃ w0 w1 body, m = w0 :: w1 :: body := by
  match m, h with
  | [w], h =>
    simp only [oneMessage, List.length_nil, decide_eq_true_eq] at h
    omega
  | w0 :: w1 :: body, _ => exact ⟨w0, w1, body, rfl⟩

/-- When the port has looked for a message to take, none is left that it may take: it takes one at most before it has
placed the response (R188). -/
theorem Port.Sound.portTake {s : State} (h : s.port.Sound) : (portTake s).port.AtRest := by
  obtain ⟨none_, same⟩ | ⟨m, rest, queue, whole, may, taken⟩ := portTake_cases s
  · rw [same]
    exact ⟨h, none_⟩
  · obtain ⟨w0, w1, body, rfl⟩ := oneMessage_header whole
    obtain ⟨-, start, places⟩ := mayTake_iff.mp may
    rw [taken, takeWords_eq]
    have inbound := queue ▸ h.inboundPlaces
    exact {
      inboundPlaces := by simp only [List.length_cons] at inbound ⊢; omega
      inboundForm := inboundOk_cons (queue ▸ h.inboundForm)
      outboundPlaces := by simp only [Port.kept, Option.isSome_some, if_true]; omega
      reading := h.reading
      noReading := h.noReading
      serving := fun _ => start
      nothingLeft := takeable_of_not_mayTake rfl }

/-! ### Placing messages -/

/-- Messages that find a place behind the others leave the reading where it is. -/
theorem Port.Sound.append {p q : Port} (h : p.Sound) {more : List OutMessage} (inbound : q.inbound = p.inbound)
    (outbound : q.outbound = p.outbound ++ more) (readCount : q.readCount = p.readCount)
    (places : q.outbound.length + q.kept ≤ 32) (serving : q.serving.isSome = true → q.start = .none) : q.Sound where
  inboundPlaces := inbound ▸ h.inboundPlaces
  inboundForm := inbound ▸ h.inboundForm
  outboundPlaces := places
  reading m hm := by
    rw [readCount]
    cases waits : p.outbound with
    | nil =>
      rw [h.noReading waits]
      exact Nat.lt_of_lt_of_le Nat.two_pos (words_length m)
    | cons first rest =>
      refine h.reading m ?_
      rw [outbound, waits] at hm
      rwa [waits]
  noReading empty := readCount.trans (h.noReading (List.append_eq_nil_iff.mp (outbound.symm.trans empty)).1)
  serving := serving

theorem Port.Sound.placeNotices {s : State} (h : s.port.Sound) (notices : List Notice) :
    (placeNotices notices s).port.Sound := by
  obtain ⟨-, inbound, start, serving, readCount, -⟩ := placeNotices_frame notices s
  obtain ⟨placed, -, outbound⟩ := placeNotices_outbound notices s
  refine h.append inbound outbound readCount ((placeNotices_length notices s).2 h.outboundPlaces) ?_
  rw [serving, start]
  exact h.serving

/-- Notices only fill the outbound queue, so a message that could not be taken before cannot be taken after. -/
theorem Port.AtRest.placeNotices {s : State} (h : s.port.AtRest) (notices : List Notice) :
    (placeNotices notices s).port.AtRest := by
  refine ⟨h.toSound.placeNotices notices, ?_⟩
  obtain ⟨-, inbound, start, serving, -⟩ := placeNotices_frame notices s
  have longer := (placeNotices_length notices s).1
  cases may : (Machine.placeNotices notices s).port.mayTake with
  | false => exact takeable_of_not_mayTake may
  | true =>
    have before : s.port.mayTake = true := by
      rw [mayTake_iff, serving, start] at may
      exact mayTake_iff.mpr ⟨may.1, may.2.1, by omega⟩
    have untaken := h.nothingLeft
    unfold Port.takeable at untaken ⊢
    rwa [inbound, may, ← before]

/-- The response of a request takes a place that is free, and the notices that find one follow it. -/
theorem Port.Sound.placeAnswer {s : State} (h : s.port.Sound) (a : Answer) (idle : s.port.serving = none)
    (room : s.port.outbound.length < 32) : (placeAnswer a s).port.Sound := by
  refine Port.Sound.placeNotices ?_ _
  refine h.append (more := [_]) rfl rfl rfl ?_ ?_
  · simp only [Port.kept, idle, Option.isSome_none, List.length_append, List.length_cons, List.length_nil]
    exact room
  · rw [idle]
    exact nofun

theorem placeAnswer_inbound (a : Answer) (s : State) : (placeAnswer a s).port.inbound = s.port.inbound :=
  (placeNotices_frame a.notices _).2.1

/-! ### Presenting, writing and reading -/

/-- A request that finds the port open is answered at once. -/
theorem Port.AtRest.answer {s : State} (h : s.port.AtRest) (ho : s.portOpen) (kindCode client : Byte) (tag : Word)
    (r : Reply) : (answer kindCode client tag r s).port.AtRest := by
  obtain ⟨empty, may⟩ := ho
  obtain ⟨idle, -, places⟩ := mayTake_iff.mp may
  exact ⟨Port.Sound.placeAnswer (s := { s with hall := r.hall }) h.toSound _ idle (by dsimp only; omega),
    takeable_of_empty ((placeAnswer_inbound _ _).trans empty)⟩

theorem Port.AtRest.writeWord {s : State} (h : s.port.AtRest) (w : Word) : (writeWord s w).port.AtRest := by
  unfold Machine.writeWord
  split
  · rename_i ready
    refine Port.Sound.portTake { h.toSound with
      inboundPlaces := length_writeInto_of_ready w h.inboundPlaces ready
      inboundForm := inboundOk_writeInto w h.inboundForm }
  · exact h

theorem Port.AtRest.writeWords {s : State} (h : s.port.AtRest) (words : List Word) :
    (writeWords words s).port.AtRest := by
  induction words generalizing s with
  | nil => exact h
  | cons w rest ih => exact ih (h.writeWord w)

theorem Port.AtRest.present {s : State} (h : s.port.AtRest) (i : Instr) : (present i s).port.AtRest := by
  unfold Machine.present
  split
  · split
    · rename_i ho
      exact h.answer ho _ _ _ _
    · exact h.writeWords _
  · exact h

theorem Port.AtRest.presentWords {s : State} (h : s.port.AtRest) (words : List Word) :
    (presentWords words s).port.AtRest := by
  unfold Machine.presentWords
  split
  · rename_i ho
    unfold serveWords
    split
    · exact h.answer ho _ _ _ _
    · exact h
  · exact h.writeWords _

/-- Once the last word of the head message is read the next one is read from its first word, and its place is free for
another message to be taken (R187, R188). -/
theorem Port.AtRest.readMessage {s : State} (h : s.port.AtRest) : (readMessage s).port.AtRest := by
  unfold Machine.readMessage
  split
  · exact ⟨{ h.toSound with }, h.nothingLeft⟩
  rename_i m rest queue
  dsimp only
  split
  · rename_i more
    refine ⟨{ h.toSound with reading := fun n hn => ?_, noReading := fun empty => ?_ }, h.nothingLeft⟩
    · obtain rfl : m = n := by simpa [queue] using hn
      exact more
    · rw [queue] at empty
      cases empty
  · have places := queue ▸ h.outboundPlaces
    refine Port.Sound.portTake { h.toSound with
      outboundPlaces := ?_
      reading := fun n _ => Nat.lt_of_lt_of_le Nat.two_pos (words_length n)
      noReading := fun _ => rfl
      serving := fun busy => ?_ }
    · simp only [Port.kept, List.length_cons] at places ⊢
      omega
    · have still := h.serving busy
      simp [still]

/-! ### Events, starts and seconds -/

theorem Port.AtRest.takeEvent {s : State} (h : s.port.AtRest) (event : Hall → Hall × List Notice) :
    (takeEvent event s).port.AtRest :=
  Port.AtRest.placeNotices (s := { s with hall := (event s.hall).1 }) h _

theorem Port.AtRest.takeAll {s : State} (h : s.port.AtRest) (due : List Due) : (takeAll due s).port.AtRest := by
  induction due generalizing s with
  | nil => exact h
  | cons d rest ih => exact ih (h.takeEvent d.event)

theorem Port.AtRest.startByRestart {s : State} (h : s.port.AtRest) : (startByRestart s).port.AtRest := by
  unfold Machine.startByRestart
  split
  · exact .afterStart s.port
  · exact h

/-- The response takes the place kept for it, and the port may then take the next message (R188). -/
theorem Port.AtRest.finishServing {s : State} (h : s.port.AtRest) {a : Answer} (busy : s.port.serving = some a) :
    (finishServing a s).port.AtRest := by
  have places := h.outboundPlaces
  simp only [Port.kept, busy, Option.isSome_some, if_true] at places
  have freed : Port.Sound { s.port with serving := none } :=
    { h.toSound with
      outboundPlaces := by simp only [Port.kept, Option.isSome_none]; exact Nat.le_of_succ_le places
      serving := nofun }
  exact (Port.Sound.placeAnswer (s := { s with port := { s.port with serving := none } }) freed a rfl places).portTake

/-- What the part does on its own, before the lines follow. -/
theorem Port.AtRest.idle {s : State} (h : s.port.AtRest) : PortLaw (idle s) := by
  refine Port.AtRest.drivePins ?_
  split
  · exact h.startByRestart
  split
  · exact h.finishServing ‹_›
  · exact Port.AtRest.takeAll (s := { s with hall := countSecond s.hall }) h _

/-! ### Every command -/

/-- A request command presents its message and the lines follow, or it is refused. -/
theorem exec_present {i : Instr} {k : Kind} {s t : State} (hk : i.kind = some k) (he : exec i s = .next t) :
    t = drivePins (present i s) := by
  cases i
  case storeProgram h program bytes =>
    change execStoreProgram h program bytes s = .next t at he
    unfold execStoreProgram at he
    split at he
    · exact (Host.Outcome.next.inj he).symm
    · cases he
  all_goals first
    | exact (Host.Outcome.next.inj he).symm
    | cases hk

theorem Port.AtRest.exec {i : Instr} {s t : State} (h : s.port.AtRest) (he : exec i s = .next t) : PortLaw t := by
  cases hk : i.kind with
  | some k => rw [exec_present hk he]; exact (h.present i).drivePins
  | none =>
    cases i
    case malformedMessage words =>
      change execMalformedMessage words s = .next t at he
      unfold execMalformedMessage at he
      split at he
      · cases he; exact (h.presentWords words).drivePins
      · cases he
    case messageRead => cases he; exact h.readMessage.drivePins
    case opened c => cases he; exact (h.takeEvent _).drivePins
    case closed c => cases he; exact (h.takeEvent _).drivePins
    case openWindowExpiry c => cases he; exact (h.takeEvent _).drivePins
    case takeWindowExpiry c => cases he; exact (h.takeEvent _).drivePins
    case gaugeWindowExpiry n => cases he; exact (h.takeEvent _).drivePins
    case sweep => cases he; exact (h.takeEvent _).drivePins
    case reset retain inputs =>
      cases he
      exact Port.AtRest.drivePins (s := startByReset retain inputs s) (.afterStart s.port)
    case pendingStart => cases he; exact h.startByRestart.drivePins
    case messageWordWritten w => cases he; exact (h.writeWord w).drivePins
    all_goals cases hk

/-- Settles O3: whatever a step does to the port leaves it at rest, and the lines are driven last. -/
theorem everyStepKeepsPortLaw : Obligations.EveryStepKeepsPortLaw := by
  intro s t law ht
  unfold step at ht
  split at ht
  · cases ht
    exact law.atRest.idle
  · rename_i c rest _
    have rested : { s with pending := rest }.port.AtRest := law.atRest
    exact rested.exec (i := c) ht

end Sys2Proof.Machine

/-! ## Drawer channels and handover, one by one (R100, R107, R109, R112, R117 to R119, R122) -/

namespace Sys2Proof.Machine

/-! ### The opening of a drawer -/

section Opened

variable {c : Fin 16} {s : Hall}

theorem openedEvent_seen (seen : (s.channel c).filter = .open) : openedEvent c s = (s, []) := by
  unfold openedEvent
  rw [seen]

/-- A channel whose drawer is open. -/
def Channel.opens (x : Channel) : Channel := { x with filter := .open, level := .open }

theorem openedEvent_level (new : (s.channel c).filter = .shut)
    (resting : (s.channel c).state = .off ∨ (s.channel c).state = .forced) :
    openedEvent c s = (s.setChannel c (s.channel c).opens, []) := by
  unfold openedEvent
  rw [new]
  dsimp only
  rw [setChannel_channel]
  rcases resting with state | state <;> split <;> rename_i other <;> cases state.symm.trans other
  all_goals rfl

theorem openedEvent_released (new : (s.channel c).filter = .shut) (state : (s.channel c).state = .released) :
    openedEvent c s = (takeStarts c (s.setChannel c (s.channel c).opens), []) := by
  unfold openedEvent
  rw [new]
  dsimp only
  rw [setChannel_channel]
  split <;> rename_i other <;> cases state.symm.trans other
  rfl

theorem openedEvent_idle (new : (s.channel c).filter = .shut) (state : (s.channel c).state = .idle) :
    openedEvent c s = forcedOpening c (s.setChannel c (s.channel c).opens) := by
  unfold openedEvent
  rw [new]
  dsimp only
  rw [setChannel_channel]
  split <;> rename_i other <;> cases state.symm.trans other
  rfl

/-- The head of a RELEASED channel's queue is opened with its drawer (R112). -/
theorem takeStarts_head {n slot : Nat} {rest : List Nat} {t : Ticket} {r : Record} {x : Channel}
    (queue : x.queue = n :: rest) (ht : s.tickets.get n = some t) (status : t.status = .released slot)
    (hr : s.records.get slot = some r) :
    takeStarts c (s.setChannel c x) = { s with
      channels := s.channels.set c.val { x with state := .opened, timer := some x.takeWindow } c.isLt
      tickets := s.tickets.put n { t with status := .opened slot }
      records := s.records.put slot { r with opened := true } } := by
  have turned : t.openDrawer = { t with status := .opened slot } := by simp [Ticket.openDrawer, status]
  have held : t.status.slot = some slot := by rw [status]; rfl
  unfold takeStarts
  simp only [setChannel_channel, setChannel_setChannel, queue, setChannel_tickets, ht, held, putTicket_records,
    setChannel_records, hr, turned]
  rfl

/-- What a forced opening leaves (R117): the channel FORCED, each READY record of the drawer held for audit, the fault
told with their number before any LOW-STOCK, and no other table changed. -/
theorem forcedOpening_spec (wf : s.records.wf) {x : Channel} {after : Hall} {notices : List Notice}
    (h : forcedOpening c (s.setChannel c x) = (after, notices)) :
    StoreFrame (s.setChannel c { x with state := .forced }) after ∧
      (∀ slot, after.records.get slot =
        (s.records.get slot).map (heldIf (fun r => r.location.inDrawer c) .audit)) ∧
      after.flags.getLsbD 1 = true ∧
      ∃ lows : List Notice, (∀ m ∈ lows, m.kind = .lowStock) ∧
        notices = ⟨.channelFault, 255#8,
          [2, natWord c.val, natWord (s.records.count (visitHolds fun r => r.location.inDrawer c))]⟩ :: lows := by
  let p := fun r : Record => r.location.inDrawer c
  let forced := s.setChannel c { x with state := .forced }
  let held := holdEach p .audit forced.records.keys forced
  have count : held.2.2 = s.records.count (visitHolds p) := holdEach_keys_count p .audit forced wf
  have opening : forcedOpening c (s.setChannel c x) =
      (setFlag .channelFault held.1, forcedNotice c held.2.2 :: held.2.1) := by
    unfold forcedOpening
    rw [setChannel_channel, setChannel_setChannel]
  rw [opening, Prod.mk.injEq] at h
  obtain ⟨rfl, rfl⟩ := h
  refine ⟨?_, holdEach_keys_get p .audit forced, ?_, held.2.1, holdEach_notices _ _ _ _, by rw [count]; rfl⟩
  · exact (holdEach_frame p .audit forced.records.keys forced).trans ⟨rfl, rfl, rfl, rfl, rfl, rfl, rfl, fun _ => id⟩
  · simp [setFlag, Flag.mask, Flag.index]

end Opened

/-- The first notice of an event finds its place when there is room for one; the others stand behind it as far as they
find one (R190). -/
theorem placeNotices_first {n : Notice} {rest : List Notice} {s : State} (room : s.roomFor 1) :
    ∃ placed : List Notice, placed.Sublist rest ∧
      (placeNotices (n :: rest) s).port.outbound = s.port.outbound ++ .notice n :: placed.map .notice := by
  have free : s.port.outbound.length + s.port.kept < 32 := by
    simp only [State.roomFor] at room
    omega
  rw [placeNotices_cons, placeNotice_room s n free]
  obtain ⟨placed, sub, outbound⟩ := placeNotices_outbound rest
    { s with port := { s.port with outbound := s.port.outbound ++ [.notice n] } }
  exact ⟨placed, sub, by simp [outbound]⟩

/-- Settles O51, by the level seen and the channel's state. -/
theorem openedStartsTakeOrForces : Obligations.OpenedStartsTakeOrForces := by
  intro c s x y
  refine ⟨fun seen => ?_, fun n rest t slot r new state queue ht status hr => ?_, fun new resting => ?_,
    fun new state wf => ?_⟩
  · exact congrArg Host.Outcome.next (takeEvent_nothing (openedEvent_seen seen))
  · have starts := takeStarts_head (c := c) (x := y) queue ht status hr
    exact congrArg Host.Outcome.next
      (takeEvent_quiet ((openedEvent_released new state).trans (congrArg (Prod.mk · []) starts)))
  · exact congrArg Host.Outcome.next (takeEvent_quiet (openedEvent_level new resting))
  · intro hit
    obtain ⟨after, notices, forced⟩ : ∃ after notices, forcedOpening c (s.hall.setChannel c y) = (after, notices) :=
      ⟨_, _, rfl⟩
    obtain ⟨frame, records, flagged, lows, lowStock, rfl⟩ := forcedOpening_spec wf forced
    have event : openedEvent c s.hall = (after, _) := (openedEvent_idle new state).trans forced
    obtain ⟨-, -, -, -, -, -, hall⟩ := placeNotices_frame (openedEvent c s.hall).2
      { s with hall := (openedEvent c s.hall).1 }
    rw [event] at hall
    refine ⟨drivePins (takeEvent (openedEvent c) s), rfl, ?_⟩
    unfold takeEvent
    rw [event, drivePins_hall, drivePins_outbound]
    rcases hall with hall | hall <;> rw [hall] <;>
      exact ⟨frame.channels, records, by simp [flagged], frame.tickets, frame.stations, frame.bindings,
        frame.waitQueues, fun room => (placeNotices_first (s := { s with hall := after }) room).imp
          fun _ ⟨sub, outbound⟩ => ⟨fun m hm => lowStock m (sub.subset hm), outbound⟩⟩

/-! ### CONFIGURE-CHANNEL -/

section Configure

variable {channel openWindow takeWindow : Word} {c : Fin 16} {s : Hall}

/-- A channel with the windows that a CONFIGURE-CHANNEL gives it (R109). -/
def Channel.withWindows (x : Channel) (openWindow takeWindow : Word) : Channel :=
  { x with openWindow := clampNat 5 255 openWindow.toNat, takeWindow := clampNat 5 255 takeWindow.toNat }

/-- The choice is the one that stands: only the windows are written. -/
theorem configureDrawer_same {choice : Bool} (hc : channel.toNat = c.val) (same : (s.channel c).enabled = choice) :
    configureDrawer channel choice openWindow takeWindow s =
      accept (channelBody ((s.channel c).withWindows openWindow takeWindow))
        (s.setChannel c ((s.channel c).withWindows openWindow takeWindow)) := by
  subst same
  unfold configureDrawer
  rw [channelOf_eq hc]
  dsimp only
  split
  · rename_i off on
    cases off.symm.trans on
  · rename_i on off
    cases on.symm.trans off
  · rfl

/-- What CONFIGURE-CHANNEL does with a channel that it is to enable, by the level of the drawer and then by the handover
list. -/
theorem configureDrawer_enable (openWindow takeWindow : Word) (hc : channel.toNat = c.val)
    (off : (s.channel c).enabled = false) :
    ((s.channel c).level = .open →
        configureDrawer channel true openWindow takeWindow s = refuse .drawerOpen s) ∧
      ((s.channel c).level = .shut → handoverInDrawer c s = true →
        configureDrawer channel true openWindow takeWindow s = refuse .busy s) ∧
      ((s.channel c).level = .shut → handoverInDrawer c s = false →
        let x := { (s.channel c).withWindows openWindow takeWindow with enabled := true, state := .idle }
        configureDrawer channel true openWindow takeWindow s = accept (channelBody x) (s.setChannel c x)) := by
  unfold configureDrawer
  rw [channelOf_eq hc]
  dsimp only
  rw [off]
  dsimp only
  refine ⟨fun level => ?_, fun level hand => ?_, fun level hand => ?_⟩ <;> split <;> rename_i other <;>
    cases level.symm.trans other
  · rfl
  · exact if_pos hand
  · exact if_neg (Bool.eq_false_iff.mp hand)

/-- What it does with a channel that it is to disable, by the channel's state and queue. -/
theorem configureDrawer_disable (openWindow takeWindow : Word) (hc : channel.toNat = c.val)
    (on : (s.channel c).enabled = true) :
    ((s.channel c).state ≠ .idle ∨ (s.channel c).queue ≠ [] →
        configureDrawer channel false openWindow takeWindow s = refuse .busy s) ∧
      ((s.channel c).state = .idle → (s.channel c).queue = [] →
        let x := { (s.channel c).withWindows openWindow takeWindow with enabled := false, state := .off }
        configureDrawer channel false openWindow takeWindow s =
          accept (channelBody x) (drainCheck (s.setChannel c x))) := by
  unfold configureDrawer
  rw [channelOf_eq hc]
  dsimp only
  rw [on]
  refine ⟨fun work => if_neg ?_, fun idle empty => if_pos ?_⟩
  · simpa [imp_iff_not_or] using work
  · simp [idle, empty]

/-- The handover list holds a ticket whose tool lies in the drawer (R109). -/
theorem handoverInDrawer_iff : handoverInDrawer c s = true ↔ ∃ n ∈ s.handover, ∃ t slot r bin,
    s.tickets.get n = some t ∧ t.status.slot = some slot ∧ s.records.get slot = some r ∧
      r.location = .drawer c bin := by
  have lies (l : Location) : l.inDrawer c = true ↔ ∃ bin, l = .drawer c bin := by
    cases l <;> simp [Location.inDrawer]
  have found (n : Nat) (r : Record) : ticketRecord n s = some r ↔
      ∃ t slot, s.tickets.get n = some t ∧ t.status.slot = some slot ∧ s.records.get slot = some r := by
    unfold ticketRecord
    cases ht : s.tickets.get n with
    | none => simp
    | some t => cases hs : t.status.slot <;> simp [hs]
  have one (n : Nat) : ((ticketRecord n s).map fun r => r.location.inDrawer c).getD false = true ↔
      ∃ r, ticketRecord n s = some r ∧ ∃ bin, r.location = .drawer c bin := by
    cases ticketRecord n s <;> simp [lies]
  simp only [handoverInDrawer, List.any_eq_true, one, found]
  constructor
  · rintro ⟨n, hn, r, ⟨t, slot, ht, hs, hr⟩, bin, hl⟩
    exact ⟨n, hn, t, slot, r, bin, ht, hs, hr, hl⟩
  · rintro ⟨n, hn, t, slot, r, bin, ht, hs, hr, hl⟩
    exact ⟨n, hn, r, ⟨t, slot, ht, hs, hr⟩, bin, hl⟩

end Configure

/-- A disabled channel settles, so the drain ends when the others have settled (R87). -/
theorem settled_setChannel {c : Fin 16} {s : Hall} {x : Channel} (off : x.state = .off) :
    (∀ d, ((s.setChannel c x).channel d).state = .idle ∨ ((s.setChannel c x).channel d).state = .off ∨
        ((s.setChannel c x).channel d).state = .forced) ↔
      ∀ d, d = c ∨ (s.channel d).state = .idle ∨ (s.channel d).state = .off ∨ (s.channel d).state = .forced := by
  refine forall_congr' fun d => ?_
  by_cases same : d = c
  · subst same
    simp [off]
  · rw [setChannel_channel_ne _ _ _ _ (Ne.symm same)]
    simp [same]

/-! ### CLEAR-CHANNEL -/

/-- A cycle starts for the head of a channel that goes IDLE while the mode is ONLINE (R112). -/
theorem startCycle_setChannel {n slot : Nat} {rest : List Nat} {t : Ticket} {c : Fin 16} {s : Hall} {x : Channel}
    (idle : x.state = .idle) (online : s.mode = .online) (queue : x.queue = n :: rest) (ht : s.tickets.get n = some t)
    (status : t.status = .promised slot) :
    startCycle c (s.setChannel c x) =
      { s with tickets := s.tickets.put n { t with status := .released slot } }.setChannel c
        { x with state := .released, timer := some x.openWindow } := by
  have own : (s.setChannel c x).channel c = x := setChannel_channel ..
  rw [startCycle_head (s := s.setChannel c x) (by rw [own, idle]) online (by rw [own, queue]) ht, own,
    release_of_promised status]
  simp [Hall.setChannel]

section Clear

variable {channel : Word} {c : Fin 16} {s : Hall}

/-- A FORCED channel whose drawer is shut goes IDLE, and a cycle starts where it may (R112, R119). -/
theorem clearDrawer_forced {cleared : Hall} (hc : channel.toNat = c.val) (forced : (s.channel c).state = .forced)
    (shut : (s.channel c).level = .shut)
    (starts : startCycle c (s.setChannel c { s.channel c with state := .idle }) = cleared) :
    clearDrawer channel s = accept [natWord (cleared.channel c).state.code] cleared := by
  subst starts
  unfold clearDrawer
  rw [channelOf_eq hc]
  simp only [forced, shut]

theorem clearDrawer_open (hc : channel.toNat = c.val)
    (open_ : (s.channel c).state = .forced ∧ (s.channel c).level = .open ∨ (s.channel c).state = .ajar) :
    clearDrawer channel s = refuse .drawerOpen s := by
  unfold clearDrawer
  rw [channelOf_eq hc]
  rcases open_ with ⟨state, level⟩ | state
  · simp only [state, level]
  · simp only [state]

theorem clearDrawer_state (hc : channel.toNat = c.val) (notForced : (s.channel c).state ≠ .forced)
    (notAjar : (s.channel c).state ≠ .ajar) : clearDrawer channel s = refuse .state s := by
  unfold clearDrawer
  rw [channelOf_eq hc]
  cases state : (s.channel c).state with
  | forced => exact absurd state notForced
  | ajar => exact absurd state notAjar
  | off | idle | released | opened => simp only [state]

end Clear

/-- Settles O49, by the choice, the channel's state and its drawer. -/
theorem channelsAreConfiguredAndCleared : Obligations.ChannelsAreConfiguredAndCleared := by
  constructor
  · intro h channel openWindow takeWindow c s ha hc clamped x wrote inHandover
    have answers {choice : Bool} {code : Code} {body : List Word} {hall : Hall}
        (hr : configureDrawer channel choice openWindow takeWindow s.hall = ⟨hall, code, body, []⟩) :
        exec (.configureChannel h channel choice openWindow takeWindow) s =
          .next (s.answered .configureChannel h code body [] hall) :=
      exec_quiet ha ⟨rfl, rfl⟩ hr rfl rfl (by decide)
    have hand : handoverInDrawer c s.hall = true ↔ inHandover := handoverInDrawer_iff
    refine ⟨fun on => answers (configureDrawer_same hc on), fun off => answers (configureDrawer_same hc off),
      fun off shut free => ?_, fun on idle empty mode => ?_, fun on idle empty mode => ?_, fun off level => ?_,
      fun off shut taken => ?_, fun on work => ?_⟩
    · obtain ⟨-, -, enables⟩ := configureDrawer_enable openWindow takeWindow hc off
      exact answers (enables shut (Bool.eq_false_iff.mpr fun taken => free (hand.mp taken)))
    · obtain ⟨-, disables⟩ := configureDrawer_disable openWindow takeWindow hc on
      have disabled := disables idle empty
      dsimp only at disabled
      rw [drainCheck_none (by exact mode)] at disabled
      exact answers disabled
    · intro settled off
      obtain ⟨-, disables⟩ := configureDrawer_disable openWindow takeWindow hc on
      have disabled := disables idle empty
      dsimp only at disabled
      refine ⟨fun unsettled => ?_, fun all => ?_⟩
      · rw [drainCheck_unsettled fun each => unsettled ((settled_setChannel rfl).mp each)] at disabled
        exact answers disabled
      · rw [drainCheck_drained (by exact mode) ((settled_setChannel rfl).mpr all)] at disabled
        exact answers disabled
    · obtain ⟨opens, -, -⟩ := configureDrawer_enable openWindow takeWindow hc off
      exact answers (opens level)
    · obtain ⟨-, listed, -⟩ := configureDrawer_enable openWindow takeWindow hc off
      exact answers (listed shut (hand.mpr taken))
    · obtain ⟨busy, -⟩ := configureDrawer_disable openWindow takeWindow hc on
      exact answers (busy work)
  · intro h channel c s ha hc x
    have answers {code : Code} {body : List Word} {hall : Hall}
        (hr : clearDrawer channel s.hall = ⟨hall, code, body, []⟩) :
        exec (.clearChannel h channel) s = .next (s.answered .clearChannel h code body [] hall) :=
      exec_quiet ha ⟨rfl, rfl⟩ hr rfl rfl (by decide)
    refine ⟨fun forced shut stays => ?_, fun n rest t slot forced shut queue online ht status => ?_,
      fun open_ => answers (clearDrawer_open hc open_),
      fun notForced notAjar => answers (clearDrawer_state hc notForced notAjar)⟩
    · have none_ := startCycle_none (c := c) (s := s.hall.setChannel c { x with state := .idle })
        (.inr (by rw [setChannel_channel]; exact stays.symm))
      exact answers ((clearDrawer_forced hc forced shut none_).trans (by rw [setChannel_channel]; rfl))
    · have starts := startCycle_setChannel (c := c) (x := { x with state := .idle }) rfl online queue ht status
      exact answers ((clearDrawer_forced hc forced shut starts).trans (by rw [setChannel_channel]; rfl))

/-! ### HANDOVER -/

section Handover

variable {ticket : Word} {tag : Option Word} {t : Ticket} {s : Hall}

theorem handOver_range (range : 128 ≤ ticket.toNat) : handOver ticket tag s = refuse .range s := if_pos range

theorem handOver_free (range : ticket.toNat ≤ 127) (free : s.tickets.get ticket.toNat = none) :
    handOver ticket tag s = refuse .noTicket s := by
  unfold handOver Config.tickets
  rw [if_neg (by omega), free]

theorem tagMatches_iff : tagMatches t tag = true ↔ tag = none ∨ tag = some t.tag := by
  cases tag <;> simp [tagMatches]

theorem handOver_otherTag (range : ticket.toNat ≤ 127) (ht : s.tickets.get ticket.toNat = some t)
    (other : tagMatches t tag = false) : handOver ticket tag s = refuse .noTicket s := by
  unfold handOver Config.tickets
  rw [if_neg (by omega), ht]
  exact if_pos (by rw [other]; rfl)

theorem handOver_elsewhere (range : ticket.toNat ≤ 127) (ht : s.tickets.get ticket.toNat = some t)
    (tagged : tagMatches t tag = true) (elsewhere : ticket.toNat ∉ s.handover) :
    handOver ticket tag s = refuse .state s := by
  unfold handOver Config.tickets
  rw [if_neg (by omega), ht]
  dsimp only
  rw [if_neg (by simp [tagged]), if_pos (by simp [elsewhere])]

/-- A HANDOVER that passes the checks of R122: the ticket leaves the list and completes (R100). -/
theorem handOver_listed {slot : Nat} {r : Record} (range : ticket.toNat ≤ 127)
    (ht : s.tickets.get ticket.toNat = some t) (tagged : tagMatches t tag = true) (listed : ticket.toNat ∈ s.handover)
    (hs : t.status.slot = some slot) (hr : s.records.get slot = some r) {done : Hall} {notices : List Notice}
    (completes : complete ticket.toNat t { s with handover := s.handover.filter fun x => x != ticket.toNat } =
      (done, notices)) :
    handOver ticket tag s = ⟨done, .ok, [ticket, natWord r.tool, natWord slot, natWord (t.dest.getD 0)], notices⟩ := by
  unfold handOver Config.tickets
  rw [if_neg (by omega), ht]
  dsimp only
  rw [if_neg (by simp [tagged]), if_neg (by simp [listed]), completes, hs, Option.getD_some, toolIn_of_get hr,
    natWord_toNat]
  rfl

end Handover

/-- Settles O50, by the checks of R122 in their order. -/
theorem handoverCompletesTheTicket : Obligations.HandoverCompletesTheTicket := by
  intro h ticket tag s ha n refused
  have refuses {code : Code} (hr : handOver ticket tag s.hall = refuse code s.hall) : refused code :=
    exec_quiet ha ⟨rfl, rfl⟩ hr rfl rfl (by decide)
  refine ⟨fun range => refuses (handOver_range range), fun range free => refuses (handOver_free range free),
    fun t range ht => ⟨fun w given other => ?_, fun tagged => ?_⟩⟩
  · refine refuses (handOver_otherTag range ht (Bool.eq_false_iff.mpr fun same => ?_))
    simp [tagMatches_iff, given, other] at same
  · have passes := tagMatches_iff.mpr tagged
    refine ⟨fun elsewhere => refuses (handOver_elsewhere range ht passes elsewhere),
      fun slot r c listed status hr hc => ?_⟩
    have held : t.status.slot = some slot := by rw [status]; rfl
    have answered := handOver_listed range ht passes listed held hr
      (complete_issued (s := { s.hall with handover := s.hall.handover.filter fun x => x != n }) held hr hc)
    have told : natWord n = ticket := natWord_toNat ticket
    rw [told] at answered
    refine exec_reply ha ⟨rfl, rfl⟩ answered rfl rfl ?_ (by decide)
    split <;> simp

end Sys2Proof.Machine

/-! ## Machine pockets and data handoff, one by one (R127, R129 to R139) -/

namespace Sys2Proof.Machine

/-! ### Renders -/

section Render

variable {client pocket pockets severity : Nat} {offset : Int} {p : Fin 16} {stored : Program} {r : Record}
  {g : Geometry} {m : Measurement} {s : Hall} (machine : s.client client = .machine p pockets severity offset)
  (program : s.programs.get p.val = some stored) (measured : r.measured = some (g, m))
include machine program measured

/-- A machine's own program renders its tool; a failed significance check is the only failure left. -/
theorem renderFor_machine : renderFor (s.client client) r pocket s =
    (render stored.steps ⟨offset, pocket, g.length, g.radius, g.grade, r.life, r.tool⟩).mapError .significance := by
  have input : renderInput r offset pocket = ⟨offset, pocket, g.length, g.radius, g.grade, r.life, r.tool⟩ := by
    rw [renderInput, measured]
    rfl
  rw [machine, renderFor, program]
  dsimp only
  rw [input]
  cases render stored.steps ⟨offset, pocket, g.length, g.radius, g.grade, r.life, r.tool⟩ <;> rfl

theorem renderFor_ok {block : List Byte}
    (rendered : render stored.steps ⟨offset, pocket, g.length, g.radius, g.grade, r.life, r.tool⟩ = .ok block) :
    renderFor (s.client client) r pocket s = .ok block := by
  rw [renderFor_machine machine program measured, rendered]
  rfl

theorem renderFor_error {e : Significance}
    (failed : render stored.steps ⟨offset, pocket, g.length, g.radius, g.grade, r.life, r.tool⟩ = .error e) :
    renderFor (s.client client) r pocket s = .error (.significance e) := by
  rw [renderFor_machine machine program measured, failed]
  rfl

end Render

/-! ### MOUNT -/

/-- A record in a pocket of a machine (R130). -/
def Record.mountedIn (r : Record) (client pocket : Nat) : Record :=
  { r with status := .mounted, location := .pocket client pocket, outAge := 0, overdue := false, dest := none }

section Mount

variable {client slot entry : Nat} {r : Record} {s : Hall}

theorem mountTool_out {tool pocket : Word} (low : 1 ≤ pocket.toNat)
    (high : pocket.toNat ≤ (s.client client).pocketCount) (found : s.lookUpTool tool = .ok (slot, r))
    (out : r.status = .out) : mountTool client tool pocket s = mountRecord client slot r pocket.toNat s := by
  unfold mountTool
  rw [if_neg (not_not.mpr ⟨low, high⟩), found]
  dsimp only
  rw [out]

variable {pocket : Nat} (dest : r.dest = none ∨ r.dest = some client)
  (free : findBinding client pocket s.bindings = none) (lowest : s.bindings.lowestFree 1024 = some entry)
include dest free lowest

theorem mountRecord_rendered {block : List Byte} (rendered : renderFor (s.client client) r pocket s = .ok block) :
    mountRecord client slot r pocket s =
      accept ([natWord entry, natWord r.tool, natWord slot, natWord r.life, natWord r.grade] ++ blockWords block)
        { s with
          records := s.records.put slot (r.mountedIn client pocket)
          bindings := s.bindings.put entry ⟨client, pocket, slot, false⟩ } := by
  unfold mountRecord Config.bindingEntries
  rw [if_neg (by rcases dest with d | d <;> simp [d]), if_neg (by simp [free]), lowest]
  dsimp only
  rw [rendered]
  rfl

theorem mountRecord_failed {e : RenderFailure} (failed : renderFor (s.client client) r pocket s = .error e) :
    mountRecord client slot r pocket s = refuseRender e s := by
  unfold mountRecord Config.bindingEntries
  rw [if_neg (by rcases dest with d | d <;> simp [d]), if_neg (by simp [free]), lowest]
  dsimp only
  rw [failed]

end Mount

/-! ### DISMOUNT, PROTECT and UNPROTECT -/

theorem pocketInRange_eq {pocket : Word} (low : 1 ≤ pocket.toNat) (high : pocket.toNat ≤ 240) :
    pocketInRange pocket = true :=
  decide_eq_true ⟨low, high⟩

section Binding

variable {client entry : Nat} {pocket : Word} {b : Binding} {r : Record} {s : Hall}
  (inRange : pocketInRange pocket = true) (found : findBinding client pocket.toNat s.bindings = some (entry, b))
include inRange found

theorem dismountPocket_protected (isProtected : b.isProtected = true) :
    dismountPocket client pocket s = refuse .isProtected s := by
  unfold dismountPocket
  rw [if_neg (by simp [inRange]), found]
  exact if_pos isProtected

variable (hr : s.records.get b.slot = some r)
include hr

theorem dismountPocket_released (unprotected : b.isProtected = false) :
    dismountPocket client pocket s =
      accept [natWord r.tool, natWord b.slot, natWord r.life, markWord r.ended]
        { s with
          records := s.records.put b.slot { r with status := .out, location := .none }
          bindings := s.bindings.del entry } := by
  unfold dismountPocket
  rw [if_neg (by simp [inRange]), found]
  dsimp only
  rw [if_neg (by simp [unprotected]), hr]
  rfl

theorem setProtection_bound (mark : Bool) :
    setProtection client pocket mark s = accept [natWord r.tool, markWord mark]
      { s with bindings := s.bindings.put entry { b with isProtected := mark } } := by
  unfold setProtection
  rw [if_neg (by simp [inRange]), found]
  dsimp only
  rw [toolIn_of_get hr]

end Binding

/-- Settles O54: MOUNT by what the render answers, DISMOUNT by the mark. -/
theorem mountBindsAndDismountReleases : Obligations.MountBindsAndDismountReleases := by
  refine ⟨?_, ?_⟩
  · intro h tool pocket p pockets severity slot entry offset r g m stored s ha holds machine low high out dest free
      lowest measured program input
    have reaches : mountTool h.client.toNat tool pocket s.hall =
        mountRecord h.client.toNat slot r pocket.toNat s.hall :=
      mountTool_out low (by rw [machine]; exact high) (lookUpTool_of_holds holds) out
    refine ⟨fun block rendered => ?_, fun e failed => ?_⟩
    · have mounts := reaches.trans
        (mountRecord_rendered (slot := slot) dest free lowest (renderFor_ok machine program measured rendered))
      have grade : r.grade = g.grade := by rw [Record.grade, measured]; rfl
      rw [grade] at mounts
      exact exec_quiet ha ⟨rfl, rfl⟩ mounts rfl rfl (by decide)
    · have fails := reaches.trans
        (mountRecord_failed (slot := slot) dest free lowest (renderFor_error machine program measured failed))
      exact exec_quiet ha ⟨rfl, rfl⟩ fails rfl rfl (by decide)
  · intro h pocket entry b r s low high found hr
    have inRange := pocketInRange_eq low high
    refine ⟨fun ha unprotected => ?_, fun ha isProtected => ?_, fun ha => ?_, fun ha => ?_⟩
    · exact exec_quiet ha ⟨rfl, rfl⟩ (dismountPocket_released inRange found hr unprotected) rfl rfl (by decide)
    · exact exec_quiet ha ⟨rfl, rfl⟩ (dismountPocket_protected inRange found isProtected) rfl rfl (by decide)
    · exact exec_quiet ha ⟨rfl, rfl⟩ (setProtection_bound inRange found hr true) rfl rfl (by decide)
    · exact exec_quiet ha ⟨rfl, rfl⟩ (setProtection_bound inRange found hr false) rfl rfl (by decide)

/-! ### ADJUST -/

theorem inGeometryRange_eq_false_iff {n : Int} : inGeometryRange n = false ↔ n < -9999999 ∨ 9999999 < n := by
  unfold inGeometryRange geometryLimit
  rw [decide_eq_false_iff_not]
  omega

/-- The trimmed geometry as the classification reads it (R135). -/
theorem adjustedGathered_eq (g : Geometry) (dl dr : Int) :
    adjustedGathered g dl dr = ⟨g.length + dl, g.radius + dr, g.runout,
      decide (g.length + dl < -9999999 ∨ 9999999 < g.length + dl ∨
        g.radius + dr < -9999999 ∨ 9999999 < g.radius + dr)⟩ := by
  refine congrArg (Gathered.mk _ _ _) (Bool.eq_iff_iff.mpr ?_)
  rw [Bool.or_eq_true, Bool.not_eq_true', Bool.not_eq_true', inGeometryRange_eq_false_iff, inGeometryRange_eq_false_iff,
    decide_eq_true_eq, or_assoc]

/-- A grade index of 0 to 15 is written as it is. -/
theorem writtenGrade_of_mem {index : Int} (low : 0 ≤ index) (high : index ≤ 15) :
    writtenGrade index = index.toNat := by
  rw [writtenGrade_eq, if_neg (by omega), if_neg (by omega)]

/-- The states of a record in which ADJUST reads its geometry (R134). -/
def RecordStatus.adjustable (x : RecordStatus) : Prop := x = .ready ∨ x = .promised ∨ x = .out ∨ x = .mounted

section Adjust

variable {slot : Nat} {r : Record} {g after : Geometry} {m : Measurement} {c : ClassEntry} {s : Hall}

theorem adjustTool_adjustable {tool dl dr : Word} (lengthDelta : -100000 ≤ dl.toInt ∧ dl.toInt ≤ 100000)
    (radiusDelta : -100000 ≤ dr.toInt ∧ dr.toInt ≤ 100000) (found : s.lookUpTool tool = .ok (slot, r))
    (status : r.status.adjustable) :
    adjustTool tool dl dr s = adjustRecord slot r dl.toInt dr.toInt s := by
  unfold adjustTool
  rw [if_neg (by simp [deltaInRange, signedOf, lengthDelta, radiusDelta]), found]
  dsimp only
  rcases status with status | status | status | status <;> rw [status] <;> rfl

/-- In the crib, only a READY record whose grade changes is offered, and only a ticket that waits may take it. -/
theorem adjustInCrib_untaken
    (untaken : r.status ≠ .ready ∨ g.grade = after.grade ∨ s.mode ≠ .online ∨ s.waitQueues.list r.cls = []) :
    adjustInCrib slot r g after m s =
      accept (adjustBody r g after) (s.putRecord slot { r with measured := some (after, m) }) := by
  unfold adjustInCrib
  dsimp only
  split
  · rename_i offered
    simp only [Bool.and_eq_true, decide_eq_true_eq] at offered
    have noTaker := (untaken.resolve_left (not_not.mpr offered.1)).resolve_left offered.2
    have kept : offer slot (s.putRecord slot { r with measured := some (after, m) }) =
        ⟨s.putRecord slot { r with measured := some (after, m) }, [], none⟩ :=
      offer_none (get_put_self ..) (noTaker.imp id fun empty => by simp [empty])
    rw [kept]
    rfl
  · rfl

theorem adjustMounted_rendered {b : Binding} {block : List Byte}
    (rendered : renderFor (s.client b.client) { r with measured := some (after, m) } b.pocket s = .ok block) :
    adjustMounted slot r b g after m s =
      ⟨s.putRecord slot { r with measured := some (after, m) }, .ok,
        adjustBody r g after ++ [natWord b.client, natWord b.pocket],
        [handoffNotice b.client 1 b.pocket r.tool slot block]⟩ := by
  unfold adjustMounted
  dsimp only
  rw [rendered]

variable {dl dr : Int} (measured : r.measured = some (g, m)) (hc : s.classes.get r.cls = some c)
include measured hc

theorem adjustRecord_band {cause : RejectCause} (inCrib : r.status ≠ .mounted)
    (fails : classify c.shape (adjustedGathered g dl dr) = some cause) :
    adjustRecord slot r dl dr s =
      refuseWith .band [natWord cause.code, intWord (gradeIndex c.shape (g.length + dl))] s := by
  unfold adjustRecord
  rw [measured, hc]
  dsimp only
  split
  · rename_i mounted
    exact absurd mounted inCrib
  · rw [fails]
    rfl

theorem adjustRecord_inCrib (inCrib : r.status ≠ .mounted)
    (passes : classify c.shape (adjustedGathered g dl dr) = none) :
    adjustRecord slot r dl dr s = adjustInCrib slot r g (adjustedGeometry c.shape g dl dr) m s := by
  unfold adjustRecord
  rw [measured, hc]
  dsimp only
  split
  · rename_i mounted
    exact absurd mounted inCrib
  · rw [passes]

variable {entry : Nat} {b : Binding} (mounted : r.status = .mounted)
  (bound : bindingOfSlot slot s.bindings = some (entry, b))
include mounted bound

theorem adjustRecord_protected (isProtected : b.isProtected = true) :
    adjustRecord slot r dl dr s = refuse .isProtected s := by
  unfold adjustRecord
  rw [measured, hc]
  dsimp only
  rw [mounted, bound]
  exact if_pos isProtected

theorem adjustRecord_mounted (unprotected : b.isProtected = false)
    (passes : classify c.shape (adjustedGathered g dl dr) = none) :
    adjustRecord slot r dl dr s = adjustMounted slot r b g (adjustedGeometry c.shape g dl dr) m s := by
  unfold adjustRecord
  rw [measured, hc]
  dsimp only
  rw [mounted, bound]
  dsimp only
  rw [if_neg (by simp [unprotected]), passes]

end Adjust

/-- Settles O55, by where the record stands and what the classification of its trimmed geometry says. -/
theorem adjustTrimsTheGeometry : Obligations.AdjustTrimsTheGeometry := by
  intro h tool dl dr slot r g m c s ha holds measured hc lowL highL lowR highR length radius index outside verdict after
    body
  have reaches (status : r.status.adjustable) :
      adjustTool tool dl dr s.hall = adjustRecord slot r dl.toInt dr.toInt s.hall :=
    adjustTool_adjustable ⟨lowL, highL⟩ ⟨lowR, highR⟩ (lookUpTool_of_holds holds) status
  have standsInCrib (status : r.status = .ready ∨ r.status = .promised ∨ r.status = .out) :
      r.status ≠ .mounted ∧ r.status.adjustable := by
    rcases status with x | x | x <;> simp [RecordStatus.adjustable, x]
  have judged : classify c.shape (adjustedGathered g dl.toInt dr.toInt) = verdict := by rw [adjustedGathered_eq]
  have trimmed (low : 0 ≤ index) (high : index ≤ 15) : adjustedGeometry c.shape g dl.toInt dr.toInt = after :=
    congrArg (Geometry.mk length radius g.runout) (writtenGrade_of_mem low high)
  refine ⟨fun cause fails status => ?_, fun passes low high status => ?_,
    fun entry b p pockets severity offset stored block passes low high mounted bound unprotected machine program
      rendered => ?_,
    fun entry b mounted bound isProtected => ?_⟩
  · obtain ⟨inCrib, adjustable⟩ := standsInCrib status
    have refused := adjustRecord_band (slot := slot) measured hc inCrib (judged.trans fails)
    exact exec_quiet ha ⟨rfl, rfl⟩ ((reaches adjustable).trans refused) rfl rfl (by decide)
  · obtain ⟨inCrib, adjustable⟩ := standsInCrib (by tauto)
    have untaken : r.status ≠ .ready ∨ g.grade = after.grade ∨ s.noTaker r.cls := by
      rcases status with x | x | ⟨-, same⟩
      · exact .inl (by simp [x])
      · exact .inl (by simp [x])
      · exact .inr (same.imp Eq.symm id)
    have adjusts := adjustRecord_inCrib (slot := slot) measured hc inCrib (judged.trans passes)
    rw [trimmed low high, adjustInCrib_untaken untaken] at adjusts
    exact exec_quiet ha ⟨rfl, rfl⟩ ((reaches adjustable).trans adjusts) rfl rfl (by decide)
  · have adjusts := adjustRecord_mounted measured hc mounted bound unprotected (judged.trans passes)
    have block := renderFor_ok (r := { r with measured := some (after, m) }) machine program rfl rendered
    rw [trimmed low high, adjustMounted_rendered block] at adjusts
    exact exec_reply ha ⟨rfl, rfl⟩ ((reaches (.inr (.inr (.inr mounted)))).trans adjusts) rfl rfl (by simp) (by decide)
  · have refused := adjustRecord_protected (dl := dl.toInt) (dr := dr.toInt) measured hc mounted bound isProtected
    exact exec_quiet ha ⟨rfl, rfl⟩ ((reaches (.inr (.inr (.inr mounted)))).trans refused) rfl rfl (by decide)

/-! ### RESEND-HANDOFF -/

section Resend

variable {client entry : Nat} {machine pocket : Word} {b : Binding} {r : Record} {block : List Byte} {s : Hall}
  (inRange : pocketInRange pocket = true)
include inRange

theorem resendToSender_rendered (found : findBinding client pocket.toNat s.bindings = some (entry, b))
    (hr : s.records.get b.slot = some r) (rendered : resendBlock client b r s = .ok block) :
    resendToSender client pocket s = accept (blockWords block ++ [natWord r.tool, natWord b.slot]) s := by
  unfold resendToSender
  rw [if_neg (by simp [inRange]), found]
  dsimp only
  rw [hr]
  dsimp only
  rw [rendered]

variable (known : machine.toNat ≤ 63) (found : findBinding machine.toNat pocket.toNat s.bindings = some (entry, b))
include known found

theorem resendByToolroom_protected (isProtected : b.isProtected = true) :
    resendByToolroom machine pocket s = refuse .isProtected s := by
  unfold resendByToolroom
  rw [if_neg (by simp [inRange, known]), found]
  exact if_pos isProtected

theorem resendByToolroom_rendered (unprotected : b.isProtected = false) (hr : s.records.get b.slot = some r)
    (rendered : resendBlock machine.toNat b r s = .ok block) :
    resendByToolroom machine pocket s =
      ⟨s, .ok, [natWord r.tool, natWord b.slot, natWord block.length],
        [handoffNotice machine.toNat 2 b.pocket r.tool b.slot block]⟩ := by
  unfold resendByToolroom
  rw [if_neg (by simp [inRange, known]), found]
  dsimp only
  rw [if_neg (by simp [unprotected]), hr]
  dsimp only
  rw [rendered]

end Resend

/-- Settles O56, by the sender's role and the pocket's mark. -/
theorem resendHandoffSendsTheBlock : Obligations.ResendHandoffSendsTheBlock := by
  intro h pocket machine entry b r g m p pockets severity offset stored block s ha low high found hr measured entryOf
    program rendered
  have inRange := pocketInRange_eq low high
  have resent : resendBlock machine b r s.hall = .ok block := renderFor_ok entryOf program measured rendered
  refine ⟨fun role own => ?_, fun client role named known => ?_⟩
  · subst own
    have form : formOk s h (.resendHandoff h none pocket) := ⟨rfl, by simp [bodyFormOk, role]⟩
    exact exec_quiet ha form (resendToSender_rendered inRange found hr resent) rfl rfl (by decide)
  · subst named
    have form : formOk s h (.resendHandoff h (some client) pocket) := ⟨rfl, by simp [bodyFormOk, role]⟩
    refine ⟨fun unprotected => ?_, fun isProtected => ?_⟩
    · exact exec_reply ha form (resendByToolroom_rendered inRange known found unprotected hr resent) rfl rfl (by simp)
        (by decide)
    · exact exec_quiet ha form (resendByToolroom_protected inRange known found isProtected) rfl rfl (by decide)

end Sys2Proof.Machine

/-! ## Rendering programs: validation and the render (R145 to R162) -/

namespace Sys2Proof.Machine

/-! ### Characters a render may emit -/

/-- A printable character, a line feed or a carriage return: what a LITERAL or a SETMARK can bring in (R146). -/
def Emittable (c : Byte) : Prop := (32 ≤ c.toNat ∧ c.toNat ≤ 126) ∨ c.toNat = 10 ∨ c.toNat = 13

/-- The characters a step brings into the render. -/
def Step.chars : Step → List Byte
  | .literal chars => chars
  | .setmark _ char => char.toList
  | _ => []

theorem emittable_of_printable {c : Byte} (h : printable c = true) : Emittable c := .inl (of_decide_eq_true h)

theorem emittable_digitChar {d : Nat} (h : d ≤ 9) : Emittable (digitChar d) := by
  left
  rw [digitChar, BitVec.toNat_ofNat]
  omega

/-- A LOAD takes its parameters from two bytes and brings in no character. -/
theorem loadOf_chars {a b : Byte} {step : Step} (h : loadOf a b = some step) : step.chars = [] := by
  unfold loadOf at h
  split at h
  · dsimp only at h
    split at h
    · cases h; rfl
    · cases h
  · cases h

theorem setmarkOf_chars {a c : Byte} {step : Step} (h : setmarkOf a c = some step) :
    ∀ ch ∈ step.chars, Emittable ch := by
  have mayHoldNone {m : Mark}
      (form : (if c.toNat = 0 then some (.setmark m none) else if printable c then some (.setmark m (some c)) else none)
        = some step) : ∀ ch ∈ step.chars, Emittable ch := by
    split at form
    · cases form; simp [Step.chars]
    split at form
    · rename_i ok
      cases form; simpa [Step.chars] using emittable_of_printable ok
    · cases form
  unfold setmarkOf at h
  split at h
  · cases h
  · exact mayHoldNone h
  · exact mayHoldNone h
  · split at h
    · rename_i ok
      simp only [Bool.or_eq_true, beq_iff_eq, or_assoc] at ok
      cases h; simpa [Step.chars, Emittable] using ok.imp_left of_decide_eq_true
    · cases h
  · split at h
    · rename_i ok
      cases h; simpa [Step.chars] using emittable_of_printable ok
    · cases h

/-- A step of the right form brings in nothing but characters that may be emitted (R148). -/
theorem stepOf_chars {kind : Byte} {params : List Byte} {step : Step} (h : stepOf kind params = some step) :
    ∀ ch ∈ step.chars, Emittable ch := by
  unfold stepOf at h
  generalize kind.toNat = code at h
  match code, params, h with
  | 1, _ :: chars, h =>
    obtain ⟨ok, literal⟩ := Option.ite_none_right_eq_some.mp h
    cases literal
    exact fun ch mem => emittable_of_printable (List.all_eq_true.mp ok ch mem)
  | 2, [_, _], h => simp [loadOf_chars h]
  | 3, [_], h | 9, [_], h =>
    obtain ⟨-, plain⟩ := Option.ite_none_right_eq_some.mp h
    cases plain
    simp [Step.chars]
  | 7, [_], h =>
    obtain ⟨m, -, mark⟩ := Option.map_eq_some_iff.mp h
    cases mark
    simp [Step.chars]
  | 8, [_, _], h => exact setmarkOf_chars h
  | 4, [], h | 5, [], h | 6, [], h | 10, [], h =>
    cases h
    simp [Step.chars]
  | 0, _, h | 1, [], h | 2, [], h | 2, [_], h | 2, _ :: _ :: _ :: _, h | 3, [], h | 3, _ :: _ :: _, h
  | 4, _ :: _, h | 5, _ :: _, h | 6, _ :: _, h | 7, [], h | 7, _ :: _ :: _, h | 8, [], h | 8, [_], h
  | 8, _ :: _ :: _ :: _, h | 9, [], h | 9, _ :: _ :: _, h | 10, _ :: _, h | _ + 11, _, h => cases h

/-! ### Programs that the validation walk accepts -/

/-- A step that stands in its place is the END exactly when it is the last (R149). -/
theorem eq_endStep_iff_of_placeFails {w : Walk} {step : Step} {rest : List Piece}
    (h : placeFails w step rest = none) : step = .endStep ↔ rest = [] := by
  cases rest with
  | nil =>
    cases step with
    | endStep => simp
    | literal | load | force | point | mark | setmark => cases h
    | digits | sign | skipIfZero =>
      unfold placeFails at h
      dsimp only at h
      split_ifs at h
      contradiction
  | cons =>
    cases step with
    | endStep => cases h
    | _ => simp

theorem bounds_of_limitFails {w : Walk} {step : Step} {size : Nat} (h : limitFails w step size = none) :
    w.total + step.greatest ≤ 128 ∧ w.index < 48 ∧ w.offset + size ≤ 192 := by
  unfold limitFails Config.blockChars Config.programSteps Config.programBytes at h
  split at h
  · cases h
  split at h
  · cases h
  · omega

@[simp] theorem Walk.next_index (w : Walk) (step : Step) (size : Nat) : (w.next step size).index = w.index + 1 := rfl

@[simp] theorem Walk.next_offset (w : Walk) (step : Step) (size : Nat) :
    (w.next step size).offset = w.offset + size := rfl

@[simp] theorem Walk.next_total (w : Walk) (step : Step) (size : Nat) :
    (w.next step size).total = w.total + step.greatest := rfl

/-- The walk from `w` passes every piece and gives these steps, with this greatest output (R147 to R150). -/
inductive Walk.Accepts : Walk → List Piece → List Step → Nat → Prop
  | done (w : Walk) : w.Accepts [] [] w.total
  | step {w : Walk} {kind : Byte} {params : List Byte} {rest : List Piece} {step : Step} {steps : List Step}
      {total : Nat} (form : stepOf kind params = some step) (place : placeFails w step rest = none)
      (limits : limitFails w step (1 + params.length) = none)
      (behind : (w.next step (1 + params.length)).Accepts rest steps total) :
      w.Accepts (.whole kind params :: rest) (step :: steps) total

theorem accepts_of_validateFrom {w : Walk} {pieces : List Piece} {steps : List Step} {total : Nat}
    (h : validateFrom w pieces = .ok (steps, total)) : w.Accepts pieces steps total := by
  induction pieces generalizing w steps with
  | nil => cases h; exact .done w
  | cons piece rest ih =>
    cases piece with
    | whole kind params =>
      rw [validateFrom] at h
      split at h
      · cases h
      rename_i form
      split at h
      · cases h
      rename_i place
      split at h
      · cases h
      rename_i limits
      split at h
      · cases h
      rename_i behind
      cases h
      exact .step form place limits (ih behind)
    | cut | badLiteral | badKind => cases h

theorem accepts_of_validate {bytes : List Byte} {steps : List Step} {total : Nat}
    (h : validate bytes = .ok (steps, total)) :
    splitSteps bytes ≠ [] ∧ (Walk.mk 0 0 false 0 0).Accepts (splitSteps bytes) steps total := by
  unfold validate at h
  split at h
  · cases h
  · rename_i nonempty
    exact ⟨nonempty, accepts_of_validateFrom h⟩

namespace Walk.Accepts

variable {w : Walk} {pieces : List Piece} {steps : List Step} {total : Nat}

theorem total_eq (h : w.Accepts pieces steps total) : total = w.total + (steps.map Step.greatest).sum := by
  induction h with
  | done => rfl
  | step form place limits behind ih => simp [ih, Nat.add_assoc]

theorem total_le (h : w.Accepts pieces steps total) (room : w.total ≤ 128) : total ≤ 128 := by
  induction h with
  | done => exact room
  | step form place limits behind ih => exact ih (bounds_of_limitFails limits).1

theorem steps_le (h : w.Accepts pieces steps total) (room : w.index ≤ 48) : w.index + steps.length ≤ 48 := by
  induction h with
  | done => exact room
  | step form place limits behind ih =>
    have within := ih (bounds_of_limitFails limits).2.1
    rw [Walk.next_index] at within
    rw [List.length_cons]
    omega

theorem chars (h : w.Accepts pieces steps total) : ∀ step ∈ steps, ∀ ch ∈ step.chars, Emittable ch := by
  induction h with
  | done => simp
  | step form place limits behind ih => exact List.forall_mem_cons.mpr ⟨stepOf_chars form, ih⟩

/-- The END stands behind every other step, and nowhere else (R149). -/
theorem ends (h : w.Accepts pieces steps total) (nonempty : pieces ≠ []) :
    ∃ before, steps = before ++ [.endStep] ∧ Step.endStep ∉ before := by
  induction h with
  | done => exact absurd rfl nonempty
  | @step w kind params rest step steps total form place limits behind ih =>
    have last := eq_endStep_iff_of_placeFails place
    by_cases empty : rest = []
    · cases last.mpr empty
      subst empty
      cases behind
      exact ⟨[], rfl, List.not_mem_nil⟩
    · obtain ⟨before, rfl, absent⟩ := ih empty
      have other : Step.endStep ≠ step := fun same => empty (last.mp same.symm)
      exact ⟨step :: before, rfl, by simp [other, absent]⟩

/-- The pieces of an accepted program hold all its bytes, so the bytes end within the limit (R150). -/
theorem bytes_le {fuel : Nat} {bytes : List Byte} (h : w.Accepts (splitStepsFuel fuel bytes) steps total)
    (enough : bytes.length ≤ fuel) (room : w.offset ≤ 192) : w.offset + bytes.length ≤ 192 := by
  induction fuel generalizing w bytes steps with
  | zero => omega
  | succ fuel ih =>
    cases bytes with
    | nil => exact room
    | cons kind rest =>
      rw [splitStepsFuel] at h
      rw [List.length_cons] at enough ⊢
      split at h
      · cases h
      · cases h
      · cases h
      rename_i m _
      split at h
      · cases h
      cases h with
      | step form place limits behind =>
        have within := ih behind (by rw [List.length_drop]; omega) (bounds_of_limitFails limits).2.2
        rw [Walk.next_offset, List.length_take, List.length_drop] at within
        omega

end Walk.Accepts

/-! ### The punctuation set -/

/-- A SETMARK gives its own entry the character it carries, or leaves it; no other entry changes (R153). -/
theorem Punctuation.char_set (p : Punctuation) (m : Mark) (c : Option Byte) (n : Mark) :
    (p.set m c).char n = c ∨ (p.set m c).char n = p.char n := by
  by_cases same : n = m
  · subst same
    cases c with
    | some c => left; cases n <;> rfl
    | none => cases n with
      | fill | plus => exact .inl rfl
      | point | minus | sep | eol => exact .inr rfl
  · right
    cases m <;> cases n <;> first | rfl | exact absurd rfl same

/-! ### The output of a render -/

theorem emitDigits_length (fill : Option Byte) (suppress : Bool) (ds : List Nat) :
    (emitDigits fill suppress ds).1.length ≤ ds.length := by
  induction ds generalizing suppress with
  | nil => exact Nat.le_refl 0
  | cons d rest ih =>
    rw [emitDigits]
    split
    · have one : fill.toList.length ≤ 1 := by cases fill <;> simp
      have others := ih true
      simp only [List.length_append, List.length_cons]
      omega
    · exact Nat.succ_le_succ (ih false)

theorem emitDigits_emittable {fill : Option Byte} (hf : ∀ ch ∈ fill, Emittable ch) (suppress : Bool) {ds : List Nat}
    (hd : ∀ d ∈ ds, d ≤ 9) : ∀ ch ∈ (emitDigits fill suppress ds).1, Emittable ch := by
  induction ds generalizing suppress with
  | nil => simp [emitDigits]
  | cons d rest ih =>
    obtain ⟨first, others⟩ := List.forall_mem_cons.mp hd
    rw [emitDigits]
    split
    · exact List.forall_mem_append.mpr ⟨fun ch mem => hf ch (Option.mem_toList.mp mem), ih true others⟩
    · exact List.forall_mem_cons.mpr ⟨emittable_digitChar first, ih false others⟩

theorem digitString_le (width n : Nat) : ∀ d ∈ digitString width n, d ≤ 9 := by
  induction width with
  | zero => simp [digitString]
  | succ width ih => exact List.forall_mem_cons.mpr ⟨by omega, ih⟩

/-- The invariant of a render: at most `size` characters are out, and all of them, and all that the state can still
bring out, may be emitted. -/
structure RenderState.Within (st : RenderState) (size : Nat) : Prop where
  length : st.output.length ≤ size
  output : ∀ ch ∈ st.output, Emittable ch
  marks : ∀ m, ∀ ch ∈ st.marks.char m, Emittable ch
  digits : ∀ d ∈ st.digits, d ≤ 9

namespace RenderState

theorem within_start : start.Within 0 where
  length := Nat.le_refl 0
  output := by simp [start]
  marks m ch held := by
    cases m <;> cases held
    case eol => exact .inr (.inl rfl)
    all_goals exact .inl (by decide)
  digits := by simp [start]

namespace Within

variable {st : RenderState} {size : Nat} (h : st.Within size)
include h

theorem load (value : Int) (width : Nat) : (st.load value width).Within size :=
  { h with digits := digitString_le width value.natAbs }

/-- What a step puts behind the output, if it is short enough and may be emitted, keeps the invariant. -/
theorem emit {chars : List Byte} {n : Nat} (short : chars.length ≤ n) (may : ∀ ch ∈ chars, Emittable ch) :
    { st with output := st.output ++ chars }.Within (size + n) :=
  { h with
    length := by
      rw [List.length_append]
      exact Nat.add_le_add h.length short
    output := List.forall_mem_append.mpr ⟨h.output, may⟩ }

/-- The same for the one character of a punctuation entry, or for none. -/
theorem emitMark (m : Mark) : { st with output := st.output ++ (st.marks.char m).toList }.Within (size + 1) :=
  h.emit (by cases st.marks.char m <;> simp) fun ch mem => h.marks m ch (Option.mem_toList.mp mem)

theorem setMark (m : Mark) {c : Option Byte} (may : ∀ ch ∈ c, Emittable ch) :
    { st with marks := st.marks.set m c }.Within size :=
  { h with
    marks := fun n ch held => by
      rcases st.marks.char_set m c n with new | old
      · exact may ch (new ▸ held)
      · exact h.marks n ch (old ▸ held) }

/-- A performed step emits no more than its greatest output (R146, R157 to R159). -/
theorem perform {step : Step} (may : ∀ ch ∈ step.chars, Emittable ch) :
    (st.perform step).Within (size + step.greatest) := by
  cases step with
  | literal chars => exact h.emit (Nat.le_refl _) may
  | digits n =>
    have taken : ∀ d ∈ (st.digits.drop st.cursor).take n, d ≤ 9 := fun d mem =>
      h.digits d (List.mem_of_mem_drop (List.mem_of_mem_take mem))
    have short := (emitDigits_length st.marks.fill st.suppress _).trans
      (List.length_take_le n (st.digits.drop st.cursor))
    exact { h.emit short (emitDigits_emittable (h.marks .fill) st.suppress taken) with }
  | point => exact { h.emitMark .point with }
  | sign =>
    rw [RenderState.perform]
    split
    · exact h.emitMark .minus
    · exact h.emitMark .plus
  | mark m => exact h.emitMark m
  | setmark m c => exact h.setMark m fun ch held => may ch (Option.mem_toList.mpr held)
  | force => exact { h with }
  | load | skipIfZero | endStep => exact h

end Within

end RenderState

/-- A render from a state within `size` ends within what its remaining steps add to that at the most. -/
theorem renderFrom_within {x : RenderInput} {steps : List Step} (may : ∀ step ∈ steps, ∀ ch ∈ step.chars, Emittable ch)
    {i skip size : Nat} {st : RenderState} (h : st.Within size) {block : List Byte}
    (rendered : renderFrom x i skip st steps = .ok block) :
    block.length ≤ size + (steps.map Step.greatest).sum ∧ ∀ ch ∈ block, Emittable ch := by
  induction steps generalizing i skip size st with
  | nil =>
    rw [renderFrom] at rendered
    cases rendered
    exact ⟨h.length, h.output⟩
  | cons step rest ih =>
    obtain ⟨first, others⟩ := List.forall_mem_cons.mp may
    have later {i skip size' : Nat} {st : RenderState} (h : st.Within size') (le : size' ≤ size + step.greatest)
        (rendered : renderFrom x i skip st rest = .ok block) :
        block.length ≤ size + ((step :: rest).map Step.greatest).sum ∧ ∀ ch ∈ block, Emittable ch := by
      refine (ih others h rendered).imp_left fun short => short.trans ?_
      rw [List.map_cons, List.sum_cons, ← Nat.add_assoc]
      exact Nat.add_le_add_right le _
    cases skip with
    | succ skip => exact later h (Nat.le_add_right ..) rendered
    | zero =>
      cases step with
      | endStep =>
        cases rendered
        exact ⟨h.length.trans (Nat.le_add_right ..), h.output⟩
      | skipIfZero n => exact later h (Nat.le_refl _) rendered
      | load f u decimals width =>
        rw [renderFrom] at rendered
        split at rendered
        · cases rendered
        · exact later (h.load ..) (Nat.le_refl _) rendered
      | literal | digits | force | point | sign | mark | setmark =>
        exact later (h.perform first) (Nat.le_refl _) rendered

/-- Settles O58: the walk bounds the program and sums its greatest outputs, and a render keeps `RenderState.Within`. -/
theorem validatedProgramsRenderWithinTheBlock : Obligations.ValidatedProgramsRenderWithinTheBlock := by
  intro bytes steps greatest valid
  obtain ⟨nonempty, accepted⟩ := accepts_of_validate valid
  have size := accepted.bytes_le (Nat.le_refl _) (Nat.zero_le _)
  have count := accepted.steps_le (Nat.zero_le _)
  have sum := accepted.total_eq
  rw [Nat.zero_add] at size count sum
  refine ⟨count, size, accepted.total_le (Nat.zero_le _), accepted.ends nonempty, fun x block rendered => ?_⟩
  have within := renderFrom_within accepted.chars RenderState.within_start rendered
  rw [Nat.zero_add, ← sum] at within
  exact within

/-! ### STORE-PROGRAM -/

section Store

variable {program : Byte} {bytes : List Byte} {p : Fin 16} {s : Hall} (number : program.toNat = p.val)
include number

theorem storeSteps_passes {steps : List Step} {greatest : Nat} (valid : validate bytes = .ok (steps, greatest)) :
    storeSteps program bytes s =
      accept [natWord p.val, natWord steps.length, natWord bytes.length, natWord greatest,
          markWord (s.programs.get p.val).isNone, natWord (machinesNaming p s)]
        { s with programs := s.programs.put p.val ⟨steps, bytes, greatest⟩ } := by
  unfold storeSteps
  rw [dif_pos (number ▸ p.isLt), valid]
  simp only [number, Table.has, Option.not_isSome]

theorem storeSteps_fails {index : Nat} {reason : Reason} (invalid : validate bytes = .error (index, reason)) :
    storeSteps program bytes s = refuseWith .badProgram [natWord index, natWord reason.code] s := by
  unfold storeSteps
  rw [dif_pos (number ▸ p.isLt), invalid]

end Store

/-! ### RENDER-TEST -/

theorem renderInput_measured {r : Record} {g : Geometry} {m : Measurement} (measured : r.measured = some (g, m))
    (offset : Int) (pocket : Nat) :
    renderInput r offset pocket = ⟨offset, pocket, g.length, g.radius, g.grade, r.life, r.tool⟩ := by
  rw [renderInput, measured]
  rfl

section Test

variable {program tool offset : Word} {p : Fin 16} {slot : Nat} {r : Record} {g : Geometry} {m : Measurement}
  {stored : Program} {s : State} (number : program.toNat = p.val) (holds : s.holds tool slot r)
  (measured : r.measured = some (g, m)) (low : -1000000 ≤ offset.toInt) (high : offset.toInt ≤ 1000000)
  (entry : s.hall.programs.get p.val = some stored)
include number holds measured low high entry

/-- A RENDER-TEST that passes its checks answers by the render alone (R162). -/
theorem testRender_checked :
    let input : RenderInput := ⟨offset.toInt, 0, g.length, g.radius, g.grade, r.life, r.tool⟩
    (∀ block, render stored.steps input = .ok block → testRender program tool offset s.hall =
      accept (blockWords block ++ [natWord block.length, natWord stored.greatest]) s.hall) ∧
    (∀ e, render stored.steps input = .error e →
      testRender program tool offset s.hall = refuseWith .significance e.body s.hall) := by
  intro input
  have named : programOf program = some p := by
    rw [programOf_eq (by omega)]
    exact congrArg some (Fin.ext number)
  have inputs : renderInput r (signedOf offset) 0 = input := renderInput_measured measured ..
  have inRange : ¬(¬(1 ≤ tool.toNat ∧ tool.toNat ≤ maxToolNumber) ∨ (!offsetInRange (signedOf offset)) = true) := by
    simp [maxToolNumber, offsetInRange, signedOf, low, high, holds.1, holds.2.1]
  unfold testRender
  rw [named]
  dsimp only
  rw [if_neg inRange, entry]
  dsimp only
  rw [findTool_of_holds holds]
  dsimp only
  rw [if_neg (by simp [measured]), inputs]
  exact ⟨fun block rendered => by rw [rendered], fun e failed => by rw [failed]⟩

end Test

/-- Settles O57, by what the validation and the render answer. -/
theorem programsAreStoredAndTested : Obligations.ProgramsAreStoredAndTested := by
  refine ⟨?_, ?_⟩
  · intro h program bytes p s ha number short kinds
    have form : formOk s h (.storeProgram h program bytes) := ⟨decide_eq_true short, kinds⟩
    exact ⟨fun steps greatest valid => exec_quiet ha form (storeSteps_passes number valid) rfl rfl (by decide),
      fun index reason invalid => exec_quiet ha form (storeSteps_fails number invalid) rfl rfl (by decide)⟩
  · intro h program tool offset p slot r g m stored s ha number holds measured low high entry input
    obtain ⟨passes, fails⟩ := testRender_checked number holds measured low high entry
    exact ⟨fun block rendered => exec_quiet ha ⟨rfl, rfl⟩ (passes block rendered) rfl rfl (by decide),
      fun e failed => exec_quiet ha ⟨rfl, rfl⟩ (fails e failed) rfl rfl (by decide)⟩

end Sys2Proof.Machine

/-! ## What carrying out a request leaves alone (R10, R127, R151, R176, R191, R195, R196) -/

namespace Sys2Proof.Machine

/-! ### Tables with writers of their own -/

/-- The tables and settings that few requests write, each with the writers the manual names. -/
structure Settings where
  index : Table Nat
  bindings : Table Binding
  programs : Table Program
  sweep : SweepTimer
  clients : Table ClientEntry
  enables : BitVec 7
  startKind : StartKind
  startCause : StartCause

def Hall.settings (s : Hall) : Settings :=
  ⟨s.index, s.bindings, s.programs, s.sweep, s.clients, s.enables, s.startKind, s.startCause⟩

/-- An operation that writes none of these tables and clears no attention flag. -/
structure SettingsKept (s t : Hall) : Prop where
  settings : t.settings = s.settings
  flags : ∀ i, s.flags.getLsbD i = true → t.flags.getLsbD i = true

namespace SettingsKept

variable {s t u : Hall}

theorem refl (s : Hall) : SettingsKept s s := ⟨rfl, fun _ => id⟩

/-- A further change of other fields. -/
theorem same (k : SettingsKept s t) (settings : u.settings = t.settings) (flags : u.flags = t.flags) :
    SettingsKept s u :=
  ⟨settings.trans k.settings, fun i h => by rw [flags]; exact k.flags i h⟩

theorem setFlag (k : SettingsKept s t) (f : Flag) : SettingsKept s (setFlag f t) :=
  ⟨k.settings, fun i h => by rw [setFlag_flags, BitVec.getLsbD_or, k.flags i h, Bool.true_or]⟩

/-! The writes of other tables -/

theorem putRecord (k : SettingsKept s t) (slot : Nat) (r : Record) : SettingsKept s (t.putRecord slot r) :=
  k.same rfl rfl

theorem putClass (k : SettingsKept s t) (cls : Nat) (c : ClassEntry) : SettingsKept s (t.putClass cls c) :=
  k.same rfl rfl

theorem freeTicket (k : SettingsKept s t) (n : Nat) : SettingsKept s (t.freeTicket n) := k.same rfl rfl

theorem setChannel (k : SettingsKept s t) (c : Fin 16) (x : Channel) : SettingsKept s (t.setChannel c x) :=
  k.same rfl rfl

theorem setStation (k : SettingsKept s t) (n : Fin 4) (x : Station) : SettingsKept s (t.setStation n x) :=
  k.same rfl rfl

theorem leaveChain (k : SettingsKept s t) (slot cls : Nat) : SettingsKept s (leaveChain slot cls t) := k.same rfl rfl

theorem joinChain (k : SettingsKept s t) (slot : Nat) (r : Record) : SettingsKept s (joinChain slot r t) :=
  k.same rfl rfl

theorem endCycle (k : SettingsKept s t) (n : Nat) (c : Fin 16) : SettingsKept s (endCycle n c t) := k.same rfl rfl

theorem bindTicket (k : SettingsKept s t) (n : Nat) (x : Ticket) (slot : Nat) (r : Record) :
    SettingsKept s (bindTicket n x slot r t) := by
  obtain ⟨waitQueues, e⟩ := bindTicket_only n x slot r t
  rw [e]
  exact k.same rfl rfl

/-! The shared operations -/

theorem drainCheck (k : SettingsKept s t) : SettingsKept s (drainCheck t) := by
  unfold Machine.drainCheck
  split
  · split
    · exact k.same rfl rfl
    · exact k
  · exact k

theorem usableRise (k : SettingsKept s t) (cls : Nat) : SettingsKept s (usableRise cls t) := by
  unfold Machine.usableRise
  split
  · exact k
  · exact k.same rfl rfl

theorem usableFall (k : SettingsKept s t) (cls : Nat) : SettingsKept s (usableFall cls t).1 := by
  unfold Machine.usableFall
  split
  · exact k
  dsimp only
  split
  · exact (k.putClass ..).setFlag _
  · exact k.putClass ..

theorem countIssue (k : SettingsKept s t) (cls : Nat) : SettingsKept s (countIssue cls t) := by
  unfold Machine.countIssue
  split
  · exact k
  · exact k.same rfl rfl

theorem countReject (k : SettingsKept s t) (cls : Nat) : SettingsKept s (countReject cls t) := by
  unfold Machine.countReject
  split
  · exact k
  · exact k.same rfl rfl

theorem holdReady (k : SettingsKept s t) (slot : Nat) (r : Record) (reason : HoldReason) :
    SettingsKept s (holdReady slot r reason t).1 :=
  ((k.leaveChain ..).putRecord ..).usableFall _

theorem holdEach (k : SettingsKept s t) (p : Record → Bool) (reason : HoldReason) (slots : List Nat) :
    SettingsKept s (holdEach p reason slots t).1 := by
  induction slots generalizing t with
  | nil => exact k
  | cons x rest ih =>
    obtain ⟨-, e⟩ | ⟨r, -, -, e⟩ := holdEach_cons p reason x rest t <;> rw [e]
    · exact ih k
    · exact ih (k.holdReady ..)

theorem startCycle (k : SettingsKept s t) (c : Fin 16) : SettingsKept s (startCycle c t) := by
  obtain ⟨channels, tickets, e⟩ := startCycle_only c t
  rw [e]
  exact k.same rfl rfl

theorem startCycles (k : SettingsKept s t) : SettingsKept s (startCycles t) := by
  unfold Machine.startCycles
  generalize List.finRange 16 = cs
  induction cs generalizing t with
  | nil => exact k
  | cons c rest ih => exact ih (k.startCycle c)

theorem moveOn (k : SettingsKept s t) (c : Fin 16) : SettingsKept s (moveOn c t) :=
  ((k.setChannel ..).startCycle c).drainCheck

theorem placeWithDrawer (k : SettingsKept s t) (n : Nat) (x : Ticket) (location : Location) :
    SettingsKept s (placeWithDrawer n x location t).1 := by
  obtain ⟨c, bin, -, -, e⟩ | ⟨-, e⟩ := placeWithDrawer_cases n x location t <;> rw [e]
  · exact (k.setChannel ..).startCycle c
  · exact k.same rfl rfl

theorem promise (k : SettingsKept s t) (n : Nat) (x : Ticket) (slot : Nat) (r : Record) :
    SettingsKept s (promise n x slot r t).1 :=
  (k.bindTicket n x slot r).placeWithDrawer ..

theorem offer (k : SettingsKept s t) (slot : Nat) : SettingsKept s (offer slot t).hall := by
  obtain e | ⟨r, n, x, -, -, -, e⟩ := offer_cases slot t <;> rw [e]
  · exact k
  · exact k.promise ..

theorem offerEach (k : SettingsKept s t) (slots : List Nat) : SettingsKept s (offerEach slots t).1 := by
  induction slots generalizing t with
  | nil => exact k
  | cons slot rest ih => exact ih (k.offer slot)

theorem enterReady (k : SettingsKept s t) (slot : Nat) (r : Record) (wasUsable : Bool) :
    SettingsKept s (enterReady slot r wasUsable t).hall := by
  unfold Machine.enterReady
  refine SettingsKept.offer ?_ slot
  split
  · exact (k.putRecord ..).joinChain ..
  · exact ((k.putRecord ..).joinChain ..).usableRise _

theorem returnPromise (k : SettingsKept s t) (slot : Nat) : SettingsKept s (returnPromise slot t).hall := by
  unfold Machine.returnPromise
  split
  · exact k.enterReady ..
  · exact k

theorem complete (k : SettingsKept s t) (n : Nat) (x : Ticket) : SettingsKept s (complete n x t).1 := by
  unfold Machine.complete
  split
  · exact k
  split
  · exact k.freeTicket n
  · exact ((k.putRecord ..).countIssue _).freeTicket n

theorem serveByClass (k : SettingsKept s t) (n : Nat) (x : Ticket) : SettingsKept s (serveByClass n x t).hall := by
  have waits : SettingsKept s (letWait n x t).hall := k.same rfl rfl
  unfold Machine.serveByClass
  split
  · split
    · exact k.promise ..
    · exact waits
  · exact waits

theorem replaceIf (k : SettingsKept s t) (auto : Bool) (cls client : Nat) (tag : Word) :
    SettingsKept s (replaceIf auto cls client tag t).1 := by
  have replaced : SettingsKept s (replace cls client tag t).1 := by
    unfold replace
    split
    · exact k
    dsimp only
    split <;> exact k.serveByClass ..
  unfold Machine.replaceIf
  split
  · dsimp only
    split
    · exact replaced.setFlag _
    · exact replaced
  · exact k

theorem abortSession (k : SettingsKept s t) (n : Fin 4) (x : Session) :
    SettingsKept s (abortSession n x t).offered.hall := by
  have resumed (slot : Nat) (r : Record) (resume : Resume) : SettingsKept s (resumeRecord slot r resume t).hall := by
    cases resume with
    | ready => exact k.enterReady ..
    | new | held reason => exact k.same rfl rfl
  unfold Machine.abortSession
  refine SettingsKept.setStation ?_ n _
  split
  · exact k
  split
  · exact k
  split
  · exact resumed ..
  · exact k

/-! The events -/

theorem takeStarts (k : SettingsKept s t) (c : Fin 16) : SettingsKept s (takeStarts c t) := by
  unfold Machine.takeStarts
  dsimp only
  split
  · exact k.same rfl rfl
  split
  · exact k.same rfl rfl
  split
  · exact k.same rfl rfl
  split
  · exact k.same rfl rfl
  · exact k.same rfl rfl

theorem openedEvent (c : Fin 16) (s : Hall) : SettingsKept s (openedEvent c s).1 := by
  have opened : SettingsKept s (s.setChannel c { s.channel c with filter := .open, level := .open }) :=
    (refl s).same rfl rfl
  unfold Machine.openedEvent
  split
  · exact refl s
  dsimp only
  split
  · exact ((opened.setChannel ..).holdEach ..).setFlag _
  · exact opened.takeStarts c
  all_goals exact opened

theorem takeEnds (k : SettingsKept s t) (c : Fin 16) : SettingsKept s (takeEnds c t).1 := by
  unfold Machine.takeEnds
  split
  · exact k.moveOn c
  split
  · exact (k.endCycle ..).moveOn c
  · exact ((k.endCycle ..).complete ..).moveOn c

theorem closedEvent (c : Fin 16) (s : Hall) : SettingsKept s (closedEvent c s).1 := by
  have shut : SettingsKept s (s.setChannel c { s.channel c with filter := .shut, level := .shut }) :=
    (refl s).same rfl rfl
  unfold Machine.closedEvent
  split
  · exact refl s
  dsimp only
  split
  · exact shut.takeEnds c
  · exact shut.takeEnds c
  all_goals exact shut

theorem openExpiry (c : Fin 16) (s : Hall) : SettingsKept s (openExpiry c s).1 := by
  have k := refl s
  unfold Machine.openExpiry
  split
  · split
    · exact k.moveOn c
    split
    · exact (k.endCycle ..).moveOn c
    split
    · exact (k.endCycle ..).moveOn c
    · exact (((k.endCycle ..).freeTicket _).returnPromise _).moveOn c
  · exact k

theorem takeExpiry (c : Fin 16) (s : Hall) : SettingsKept s (takeExpiry c s).1 := by
  unfold Machine.takeExpiry
  dsimp only
  split
  · exact ((refl s).setChannel ..).setFlag _
  · exact refl s

theorem gaugeExpiry (n : Fin 4) (s : Hall) : SettingsKept s (gaugeExpiry n s).1 := by
  unfold Machine.gaugeExpiry
  split
  · exact refl s
  · exact (refl s).abortSession n _

end SettingsKept

end Sys2Proof.Machine

/-! ## Every request is refused without effect or carried out within its tables (Refused, spec/00_scope.md) -/

namespace Sys2Proof.Machine

/-- A reply that refuses, with no effect and no notice, or that carries the request out and leaves a hall of which
`kept` holds. -/
inductive Reply.Judged (s : Hall) (kept : Hall → Prop) : Reply → Prop
  | refused (code : Code) (body : List Word) : Reply.Judged s kept (refuseWith code body s)
  | carriedOut {r : Reply} (done : r.code.carriedOut = true) (within : kept r.hall) : Reply.Judged s kept r

/-- A reply that refuses, or that carries the request out and writes no table with writers of its own. -/
abbrev Reply.Keeps (s : Hall) (r : Reply) : Prop := r.Judged s (SettingsKept s)

theorem acceptOrPromised_carriedOut (taken : Option Nat) : (acceptOrPromised taken).carriedOut = true := by
  cases taken <;> rfl

/-- OK, with the hall as it stands. -/
theorem Reply.Judged.read (body : List Word) (s : Hall) : (accept body s).Keeps s := .carriedOut rfl (.refl s)

theorem refuseRender_judged (e : RenderFailure) (s : Hall) (kept : Hall → Prop) : (refuseRender e s).Judged s kept := by
  cases e <;> exact .refused ..

/-! ### The record store -/

theorem enrolTool_judged (tool cls : Word) (loc : CribLoc) (life : Option Word) (s : Hall) :
    (enrolTool tool cls loc life s).Judged s fun t => SettingsKept s { t with index := s.index } := by
  unfold enrolTool
  split
  · exact .refused ..
  split
  · exact .refused ..
  split
  · exact .refused ..
  split
  · exact .refused ..
  split
  · exact .refused ..
  split
  · exact .refused ..
  · exact .carriedOut rfl ((SettingsKept.refl s).same rfl rfl)

theorem retireTool_judged (tool : Word) (s : Hall) :
    (retireTool tool s).Judged s fun t => SettingsKept s { t with index := s.index } := by
  unfold retireTool
  split
  · exact .refused ..
  rename_i slot r _
  split
  case h_5 =>
    have fallen := ((SettingsKept.refl s).leaveChain slot r.cls).usableFall r.cls
    refine .carriedOut rfl (fallen.same ?_ rfl)
    simpa [Hall.settings] using (congrArg Settings.index fallen.settings).symm
  case h_6 | h_7 => exact .carriedOut rfl ((SettingsKept.refl s).same rfl rfl)
  all_goals exact .refused ..

theorem holdTool_judged (tool : Word) (s : Hall) : (holdTool tool s).Keeps s := by
  unfold holdTool
  split
  · exact .refused ..
  split
  case h_6 => exact .carriedOut rfl ((SettingsKept.refl s).putRecord ..)
  case h_7 => exact .carriedOut rfl ((SettingsKept.refl s).holdReady ..)
  all_goals exact .refused ..

theorem releaseWithout_judged (slot : Nat) (r : Record) (reason : HoldReason) (s : Hall) :
    (releaseWithout slot r reason s).Keeps s := by
  have cleared : SettingsKept s (s.putRecord slot r.clearGeometry) := (SettingsKept.refl s).putRecord ..
  unfold releaseWithout
  cases reason with
  | worn => exact .refused ..
  | audit | manual =>
    dsimp only
    split
    · exact .carriedOut rfl ((SettingsKept.refl s).enterReady ..)
    · exact .carriedOut rfl cleared
  | rejected | stale | suspect => exact .carriedOut rfl cleared

theorem releaseHeld_judged (tool : Word) (regrind : Bool) (s : Hall) : (releaseHeld tool regrind s).Keeps s := by
  unfold releaseHeld
  split
  · exact .refused ..
  split
  case h_2 =>
    split
    · unfold releaseRegrind
      split
      · exact .refused ..
      dsimp only
      split
      · exact .refused ..
      split
      · exact .refused ..
      · exact .carriedOut rfl ((SettingsKept.refl s).putRecord ..)
    · exact releaseWithout_judged ..
  all_goals exact .refused ..

theorem moveTool_judged (tool : Word) (loc : CribLoc) (s : Hall) : (moveTool tool loc s).Keeps s := by
  unfold moveTool
  split
  · exact .refused ..
  split
  · exact .refused ..
  split
  case h_5 | h_6 | h_7 => exact .carriedOut rfl ((SettingsKept.refl s).putRecord ..)
  all_goals exact .refused ..

theorem queryRecord_judged (tool : Word) (s : Hall) : (queryRecord tool s).Keeps s := by
  unfold queryRecord
  split
  · exact .refused ..
  · exact .read ..

theorem findInClass_judged (cls start : Word) (s : Hall) : (findInClass cls start s).Keeps s := by
  unfold findInClass
  split
  · exact .refused ..
  split
  · exact .refused ..
  · exact .read ..

/-! ### The class table -/

theorem defineEntry_judged (cls : Word) (shape : ShapeWords) (policy : PolicyWords) (s : Hall) :
    (defineEntry cls shape policy s).Keeps s := by
  unfold defineEntry
  dsimp only
  split
  · exact .refused ..
  split
  · exact .refused ..
  split
  · exact .carriedOut rfl ((SettingsKept.refl s).putClass ..)
  split
  · exact .refused ..
  · exact .carriedOut rfl ((SettingsKept.refl s).putClass ..)

theorem queryEntry_judged (cls : Word) (s : Hall) : (queryEntry cls s).Keeps s := by
  unfold queryEntry
  split
  · exact .refused ..
  · exact .read ..

theorem deleteEntry_judged (cls : Word) (s : Hall) : (deleteEntry cls s).Keeps s := by
  unfold deleteEntry
  split
  · exact .refused ..
  split
  · exact .refused ..
  · exact .carriedOut rfl ((SettingsKept.refl s).same rfl rfl)

theorem classStats_judged (cls : Word) (clear : Bool) (s : Hall) : (classStats cls clear s).Keeps s := by
  unfold classStats
  split
  · exact .refused ..
  cases clear with
  | false => exact .read ..
  | true => exact .carriedOut rfl ((SettingsKept.refl s).putClass ..)

/-! ### The presetting unit -/

theorem writeGeometry_judged (client : Nat) (station : Word) (values : GeometryWords) (s : Hall) :
    (writeGeometry client station values s).Keeps s := by
  unfold writeGeometry
  split
  · exact .refused ..
  split
  · exact .refused ..
  split
  · exact .refused ..
  · exact .carriedOut rfl ((SettingsKept.refl s).setStation ..)

theorem writeCorrection_judged (client : Nat) (station : Word) (values : CorrectionWords) (s : Hall) :
    (writeCorrection client station values s).Keeps s := by
  unfold writeCorrection
  split
  · exact .refused ..
  split
  · exact .refused ..
  split
  · exact .refused ..
  · exact .carriedOut rfl ((SettingsKept.refl s).setStation ..)

theorem configureGaugeWindow_judged (station window : Word) (s : Hall) :
    (configureGaugeWindow station window s).Keeps s := by
  unfold configureGaugeWindow
  split
  · exact .refused ..
  · exact .carriedOut rfl ((SettingsKept.refl s).setStation ..)

theorem queryStationImage_judged (station : Word) (s : Hall) : (queryStationImage station s).Keeps s := by
  unfold queryStationImage
  split
  · exact .refused ..
  · exact .read ..

theorem holdCalibration_judged (station generation : Word) (s : Hall) :
    (holdCalibration station generation s).Keeps s := by
  unfold holdCalibration
  split
  · exact .refused ..
  split
  · exact .refused ..
  · exact .carriedOut rfl ((SettingsKept.refl s).holdEach ..)

theorem beginTool_judged (n : Fin 4) (entry : EntryState) (tool : Word) (s : Hall) :
    (beginTool n entry tool s).Keeps s := by
  unfold beginTool
  split
  · exact .refused ..
  split
  · exact .refused ..
  rename_i slot r _ _ resume _
  refine .carriedOut rfl (SettingsKept.setStation (SettingsKept.putRecord ?_ slot _) n _)
  cases resume with
  | ready => exact ((SettingsKept.refl s).leaveChain slot r.cls).usableFall _
  | new | held reason => exact .refl s

theorem beginSession_judged (client : Nat) (tool : Word) (s : Hall) : (beginSession client tool s).Keeps s := by
  have master (n : Fin 4) (entry : EntryState) : (beginMaster n entry s).Keeps s :=
    .carriedOut rfl ((SettingsKept.refl s).setStation ..)
  unfold beginSession
  split
  · exact .refused ..
  split
  · exact .refused ..
  · exact .refused ..
  · split
    · exact master ..
    · exact .refused ..
  · split
    · exact master ..
    · exact beginTool_judged ..

theorem takePoint_judged (client : Nat) (z x : Word) (s : Hall) : (takePoint client z x s).Keeps s := by
  unfold takePoint
  split
  · exact .refused ..
  dsimp only
  split
  · exact .refused ..
  split
  · exact .refused ..
  split
  · exact .refused ..
  · exact .carriedOut rfl ((SettingsKept.refl s).setStation ..)

theorem endTool_judged (n : Fin 4) (slot points : Nat) (m : Gathered) (temperature : Int) (s : Hall) :
    (endTool n slot points m temperature s).Keeps s := by
  unfold endTool
  dsimp only
  split
  · exact .refused ..
  split
  · exact .refused ..
  refine .carriedOut (acceptOrPromised_carriedOut _) (SettingsKept.setStation ?_ n _)
  unfold applyResult
  dsimp only
  split
  · exact (SettingsKept.refl s).enterReady ..
  · exact ((SettingsKept.refl s).putRecord ..).countReject _

theorem endMaster_judged (n : Fin 4) (points : Nat) (m : Gathered) (g : GeometryHalf) (c : CorrectionHalf)
    (temperature : Int) (s : Hall) : (endMaster n points m g c temperature s).Keeps s := by
  refine .carriedOut rfl (SettingsKept.setStation ?_ n _)
  split
  · exact .refl s
  · exact (SettingsKept.refl s).setFlag _

theorem endSession_judged (client : Nat) (temperature : Word) (s : Hall) : (endSession client temperature s).Keeps s := by
  unfold endSession
  split
  · exact .refused ..
  split
  · exact .refused ..
  dsimp only
  split
  · exact .refused ..
  · exact .refused ..
  split
  · exact endTool_judged ..
  · exact endMaster_judged ..

theorem abortByRequest_judged (client : Nat) (s : Hall) : (abortByRequest client s).Keeps s := by
  unfold abortByRequest
  split
  · exact .refused ..
  split
  · exact .refused ..
  · exact .carriedOut (acceptOrPromised_carriedOut _) ((SettingsKept.refl s).abortSession ..)

/-! ### The issue unit -/

theorem answerServed_judged (n : Nat) (t : Ticket) {v : Served} {s : Hall} (served : SettingsKept s v.hall) :
    (answerServed n t v).Keeps s := by
  unfold answerServed
  split <;> exact .carriedOut rfl served

theorem issueByTool_judged (client : Nat) (tag : Word) (form : IssueForm) (s : Hall) :
    (issueByTool client tag form s).Keeps s := by
  unfold issueByTool
  split
  · exact .refused ..
  split
  · exact .refused ..
  split
  case h_2 => exact answerServed_judged _ _ ((SettingsKept.refl s).promise ..)
  all_goals exact .refused ..

theorem issueByClass_judged (client : Nat) (tag : Word) (form : IssueForm) (s : Hall) :
    (issueByClass client tag form s).Keeps s := by
  unfold issueByClass
  split
  · exact .refused ..
  split
  · exact .refused ..
  · exact answerServed_judged _ _ ((SettingsKept.refl s).serveByClass ..)

theorem issueTicket_judged (client : Nat) (tag : Word) (form : IssueForm) (s : Hall) :
    (issueTicket client tag form s).Keeps s := by
  unfold issueTicket
  split
  · exact .refused ..
  split
  · exact issueByTool_judged ..
  · exact issueByClass_judged ..

theorem cancelTicket_judged (client n : Nat) (t : Ticket) (s : Hall) : (cancelTicket client n t s).Keeps s := by
  have k := SettingsKept.refl s
  have cancelled {tool : Nat} {o : Offered} {hall : Hall} (h : SettingsKept s hall) :
      (cancelPromisedReply client n t tool o hall).Keeps s := .carriedOut (acceptOrPromised_carriedOut _) h
  unfold cancelTicket
  split
  · exact .carriedOut rfl (k.same rfl rfl)
  · refine cancelled (SettingsKept.returnPromise (SettingsKept.freeTicket ?_ n) _)
    split
    · exact k.setChannel ..
    · exact k.same rfl rfl
  · split
    · exact cancelled ((((k.endCycle ..).freeTicket n).returnPromise _).moveOn _)
    · exact cancelled ((k.freeTicket n).returnPromise _)
  · exact .refused ..

theorem cancelByNumber_judged (client : Nat) (ticket : Word) (tag : Option Word) (s : Hall) :
    (cancelByNumber client ticket tag s).Keeps s := by
  unfold cancelByNumber
  split
  · exact .refused ..
  split
  · exact .refused ..
  split
  · exact .refused ..
  split
  · exact .refused ..
  · exact cancelTicket_judged ..

theorem returnRecord_judged (slot : Nat) (r : Record) (location : Location) (s : Hall) :
    (returnRecord slot r location s).Keeps s := by
  unfold returnRecord
  dsimp only
  split
  · exact .carriedOut rfl ((SettingsKept.refl s).putRecord ..)
  split
  · exact .carriedOut rfl (((SettingsKept.refl s).putRecord ..).usableFall _)
  · exact .carriedOut (acceptOrPromised_carriedOut _) ((SettingsKept.refl s).enterReady ..)

theorem returnToCrib_judged (tool : Word) (loc : CribLoc) (s : Hall) : (returnToCrib tool loc s).Keeps s := by
  unfold returnToCrib
  split
  · exact .refused ..
  split
  · exact .refused ..
  split
  case h_2 => exact returnRecord_judged ..
  all_goals exact .refused ..

theorem changeMode_judged (on : Bool) (s : Hall) : (changeMode on s).Keeps s := by
  have mode (m : IssueMode) : SettingsKept s { s with mode := m } := (SettingsKept.refl s).same rfl rfl
  unfold changeMode
  split
  · split
    · exact .read ..
    · dsimp only
      have started := (mode .online).startCycles
      generalize startCycles { s with mode := .online } = t at started ⊢
      exact .carriedOut rfl (started.offerEach _)
  · split
    · exact .carriedOut rfl (mode .draining).drainCheck
    · exact .read ..

theorem queryPool_judged (cls start : Word) (s : Hall) : (queryPool cls start s).Keeps s := by
  unfold queryPool
  dsimp only
  split
  · exact .refused ..
  split
  · exact .read ..
  split
  · exact .refused ..
  · exact .read ..

theorem queryTicketImage_judged (ticket : Word) (s : Hall) : (queryTicketImage ticket s).Keeps s := by
  unfold queryTicketImage
  split
  · exact .refused ..
  split
  · exact .read ..
  · exact .read ..

/-! ### The drawer unit -/

theorem configureDrawer_judged (channel : Word) (enabled : Bool) (openWindow takeWindow : Word) (s : Hall) :
    (configureDrawer channel enabled openWindow takeWindow s).Keeps s := by
  unfold configureDrawer
  split
  · exact .refused ..
  dsimp only
  split
  · split
    · exact .refused ..
    split
    · exact .refused ..
    · exact .carriedOut rfl ((SettingsKept.refl s).setChannel ..)
  · split
    · exact .carriedOut rfl ((SettingsKept.refl s).setChannel ..).drainCheck
    · exact .refused ..
  · exact .carriedOut rfl ((SettingsKept.refl s).setChannel ..)

theorem clearDrawer_judged (channel : Word) (s : Hall) : (clearDrawer channel s).Keeps s := by
  unfold clearDrawer
  split
  · exact .refused ..
  split
  case h_2 => exact .carriedOut rfl (((SettingsKept.refl s).setChannel ..).startCycle _)
  all_goals exact .refused ..

theorem handOver_judged (ticket : Word) (tag : Option Word) (s : Hall) : (handOver ticket tag s).Keeps s := by
  have left : SettingsKept s { s with handover := s.handover.filter fun x => x != ticket.toNat } :=
    (SettingsKept.refl s).same rfl rfl
  unfold handOver
  split
  · exact .refused ..
  split
  · exact .refused ..
  split
  · exact .refused ..
  split
  · exact .refused ..
  · exact .carriedOut rfl (left.complete ..)

theorem queryDrawer_judged (channel start : Word) (s : Hall) : (queryDrawer channel start s).Keeps s := by
  unfold queryDrawer
  split
  · exact .refused ..
  split
  · exact .refused ..
  · exact .read ..

theorem queryHandoverList_judged (start : Word) (s : Hall) : (queryHandoverList start s).Keeps s := by
  unfold queryHandoverList
  split
  · exact .refused ..
  · exact .read ..

/-! ### The pocket unit -/

theorem mountTool_judged (client : Nat) (tool pocket : Word) (s : Hall) :
    (mountTool client tool pocket s).Judged s fun t => SettingsKept s { t with bindings := s.bindings } := by
  unfold mountTool
  split
  · exact .refused ..
  split
  · exact .refused ..
  split
  case h_2 =>
    unfold mountRecord
    split
    · exact .refused ..
    split
    · exact .refused ..
    split
    · exact .refused ..
    split
    · exact refuseRender_judged ..
    · exact .carriedOut rfl ((SettingsKept.refl s).same rfl rfl)
  all_goals exact .refused ..

theorem dismountPocket_judged (client : Nat) (pocket : Word) (s : Hall) :
    (dismountPocket client pocket s).Judged s fun t => SettingsKept s { t with bindings := s.bindings } := by
  unfold dismountPocket
  split
  · exact .refused ..
  split
  · exact .refused ..
  split
  · exact .refused ..
  split
  · exact .refused ..
  · exact .carriedOut rfl ((SettingsKept.refl s).same rfl rfl)

theorem setProtection_judged (client : Nat) (pocket : Word) (mark : Bool) (s : Hall) :
    (setProtection client pocket mark s).Judged s fun t => SettingsKept s { t with bindings := s.bindings } := by
  unfold setProtection
  split
  · exact .refused ..
  split
  · exact .refused ..
  · exact .carriedOut rfl ((SettingsKept.refl s).same rfl rfl)

theorem adjustInCrib_judged (slot : Nat) (r : Record) (before after : Geometry) (m : Measurement) (s : Hall) :
    (adjustInCrib slot r before after m s).Keeps s := by
  have adjusted : SettingsKept s (s.putRecord slot { r with measured := some (after, m) }) :=
    (SettingsKept.refl s).putRecord ..
  unfold adjustInCrib
  dsimp only
  split
  · split <;> exact .carriedOut rfl (adjusted.offer slot)
  · exact .carriedOut rfl adjusted

theorem adjustMounted_judged (slot : Nat) (r : Record) (b : Binding) (before after : Geometry) (m : Measurement)
    (s : Hall) : (adjustMounted slot r b before after m s).Keeps s := by
  unfold adjustMounted
  dsimp only
  split
  · exact refuseRender_judged ..
  · exact .carriedOut rfl ((SettingsKept.refl s).putRecord ..)

theorem adjustRecord_judged (slot : Nat) (r : Record) (dl dr : Int) (s : Hall) :
    (adjustRecord slot r dl dr s).Keeps s := by
  unfold adjustRecord
  split
  · dsimp only
    split
    · split
      · exact .refused ..
      split
      · exact .refused ..
      split
      · exact .refused ..
      · exact adjustMounted_judged ..
    · split
      · exact .refused ..
      · exact adjustInCrib_judged ..
  · exact .refused ..

theorem adjustTool_judged (tool lengthDelta radiusDelta : Word) (s : Hall) :
    (adjustTool tool lengthDelta radiusDelta s).Keeps s := by
  unfold adjustTool
  split
  · exact .refused ..
  split
  · exact .refused ..
  split
  · exact .refused ..
  · exact .refused ..
  · exact .refused ..
  all_goals exact adjustRecord_judged ..

theorem resendHandoffBlock_judged (client : Nat) (machine : Option Word) (pocket : Word) (s : Hall) :
    (resendHandoffBlock client machine pocket s).Keeps s := by
  unfold resendHandoffBlock
  split
  · unfold resendToSender
    split
    · exact .refused ..
    split
    · exact .refused ..
    split
    · exact .refused ..
    split
    · exact refuseRender_judged ..
    · exact .read ..
  · unfold resendByToolroom
    split
    · exact .refused ..
    split
    · exact .refused ..
    split
    · exact .refused ..
    split
    · exact .refused ..
    split
    · exact refuseRender_judged ..
    · exact .carriedOut rfl (.refl s)

theorem queryMagazine_judged (client : Nat) (machine pocket : Word) (s : Hall) :
    (queryMagazine client machine pocket s).Keeps s := by
  unfold queryMagazine
  split
  · exact .refused ..
  split
  · exact .refused ..
  · exact .read ..

/-! ### The rendering unit -/

theorem storeSteps_judged (program : Byte) (bytes : List Byte) (s : Hall) :
    (storeSteps program bytes s).Judged s fun t => SettingsKept s { t with programs := s.programs } := by
  unfold storeSteps
  split
  · split
    · exact .refused ..
    · exact .carriedOut rfl ((SettingsKept.refl s).same rfl rfl)
  · exact .refused ..

theorem queryStored_judged (program : Word) (s : Hall) : (queryStored program s).Keeps s := by
  unfold queryStored
  split
  · exact .refused ..
  split
  · exact .refused ..
  · exact .read ..

theorem testRender_judged (program tool offset : Word) (s : Hall) : (testRender program tool offset s).Keeps s := by
  unfold testRender
  split
  · exact .refused ..
  split
  · exact .refused ..
  split
  · exact .refused ..
  split
  · exact .refused ..
  split
  · exact .refused ..
  split
  · exact .refused ..
  · exact .read ..

/-! ### The life unit -/

theorem chargeRecord_judged (client : Nat) (tag : Word) (pocket slot : Nat) (r : Record) (consumed : Nat) (s : Hall) :
    (chargeRecord client tag pocket slot r consumed s).Keeps s := by
  have k := SettingsKept.refl s
  unfold chargeRecord
  split
  · exact .read ..
  split
  · exact .carriedOut rfl (((k.putRecord ..).usableFall _).replaceIf ..)
  · unfold chargeLife
    dsimp only
    split <;> exact .carriedOut rfl (k.putRecord ..)

theorem reportUsage_judged (client : Nat) (tag pocket amount : Word) (s : Hall) :
    (reportUsage client tag pocket amount s).Keeps s := by
  unfold reportUsage
  split
  · exact .refused ..
  split
  · exact .refused ..
  split
  · exact .refused ..
  split
  · exact .refused ..
  · exact chargeRecord_judged ..

/-! ### The port's own requests -/

/-- SET-CLIENT of another client than 0 by a valid form: checks 4 and 5 of R192, then the entry is written (R193). -/
theorem setEntry_eq {client : Word} {form : ClientForm} {e : ClientEntry} {s : Hall} (low : 1 ≤ client.toNat)
    (high : client.toNat ≤ 63) (valid : clientEntryOf form = some e) :
    setEntry client form s =
      if e.station.any (fun n => stationTaken client.toNat n s) then refuse .stationTaken s
      else if decide (e.role ≠ (s.client client.toNat).role ∨ e.station ≠ (s.client client.toNat).station) &&
        clientHasWork client.toNat s then refuse .clientBusy s
      else accept (e.words ++ [markWord (decide (e.role ≠ (s.client client.toNat).role))])
        (s.putClient client.toNat e) := by
  unfold setEntry
  rw [if_neg (by omega), if_neg (by omega), valid]
  cases e <;> rfl

/-- What SET-CLIENT can do: nothing, or it writes the entry of another client than 0, to a station that no other client
has (R192, R193). -/
theorem setEntry_cases (client : Word) (form : ClientForm) (s : Hall) :
    (∃ code, setEntry client form s = refuse code s) ∨
    ∃ e body, 1 ≤ client.toNat ∧ client.toNat ≤ 63 ∧
      (∀ x, e.station = some x → stationTaken client.toNat x s = false) ∧
      setEntry client form s = accept body (s.putClient client.toNat e) := by
  by_cases high : 63 < client.toNat
  · exact .inl ⟨_, if_pos high⟩
  by_cases low : client.toNat = 0
  · exact .inl ⟨_, (if_neg high).trans (if_pos low)⟩
  cases valid : clientEntryOf form with
  | none =>
    refine .inl ⟨.range, ?_⟩
    unfold setEntry
    rw [if_neg high, if_neg low, valid]
  | some e =>
    rw [setEntry_eq (by omega) (by omega) valid]
    split
    · exact .inl ⟨_, rfl⟩
    rename_i free
    split
    · exact .inl ⟨_, rfl⟩
    · exact .inr ⟨e, _, by omega, by omega, fun x hx => by simpa [hx] using free, rfl⟩

theorem putClient_only (s : Hall) (n : Nat) (e : ClientEntry) : ∃ clients, s.putClient n e = { s with clients } := by
  cases e <;> exact ⟨_, rfl⟩

theorem setEntry_judged (client : Word) (form : ClientForm) (s : Hall) :
    (setEntry client form s).Judged s fun t => SettingsKept s { t with clients := s.clients } := by
  obtain ⟨code, e⟩ | ⟨entry, body, -, -, -, e⟩ := setEntry_cases client form s <;> rw [e]
  · exact .refused ..
  · obtain ⟨clients, only⟩ := putClient_only s client.toNat entry
    rw [only]
    exact .carriedOut rfl (.refl s)

theorem queryEntryOf_judged (sender : Nat) (client : Word) (s : Hall) : (queryEntryOf sender client s).Keeps s := by
  unfold queryEntryOf
  split
  · exact .refused ..
  split
  · exact .refused ..
  · exact .read ..

theorem wipeHall_judged (s : Hall) :
    (wipeHall s).Judged s fun t => SettingsKept s { t with index := s.index, bindings := s.bindings } := by
  unfold wipeHall
  split
  · exact .refused ..
  · exact .carriedOut rfl ((SettingsKept.refl s).same rfl rfl)

/-! ### Every request -/

/-- The hall `t` with the tables that a request of this kind is a writer of as they stand in `s`: the index has ENROL,
RETIRE and WIPE, the bindings MOUNT, DISMOUNT, PROTECT, UNPROTECT and WIPE, and each other table one request. -/
def unwritten (k : Option Kind) (s t : Hall) : Hall :=
  { t with
    index := if k ∈ [some .enrol, some .retire, some .wipe] then s.index else t.index
    bindings :=
      if k ∈ [some .mount, some .dismount, some .protect, some .unprotect, some .wipe] then s.bindings else t.bindings
    programs := if k = some .storeProgram then s.programs else t.programs
    sweep := if k = some .setSweep then s.sweep else t.sweep
    clients := if k = some .setClient then s.clients else t.clients
    enables := if k = some .setEnables then s.enables else t.enables
    flags := if k = some .attention then s.flags else t.flags }

/-- The owning unit refuses a request without effect, or carries it out and writes no table but those it is a writer
of. -/
theorem handle_judged (i : Instr) (s : Hall) :
    (handle i s).Judged s fun t => SettingsKept s (unwritten i.kind s t) := by
  cases i
  case enrol h tool cls loc life => exact enrolTool_judged tool cls loc life s
  case retire h tool => exact retireTool_judged tool s
  case hold h tool => exact holdTool_judged tool s
  case releaseHold h tool regrind => exact releaseHeld_judged tool regrind s
  case moveBin h tool loc => exact moveTool_judged tool loc s
  case queryTool h tool => exact queryRecord_judged tool s
  case findClass h cls start => exact findInClass_judged cls start s
  case defineClass h cls shape policy => exact defineEntry_judged cls shape policy s
  case queryClass h cls => exact queryEntry_judged cls s
  case deleteClass h cls => exact deleteEntry_judged cls s
  case stats h cls clear => exact classStats_judged cls clear s
  case calGeometry h station values => exact writeGeometry_judged _ station values s
  case calCorrection h station values => exact writeCorrection_judged _ station values s
  case configureStation h station window => exact configureGaugeWindow_judged station window s
  case queryStation h station => exact queryStationImage_judged station s
  case holdByCalibration h station generation => exact holdCalibration_judged station generation s
  case gaugeBegin h tool => exact beginSession_judged _ tool s
  case gaugePoint h z x => exact takePoint_judged _ z x s
  case gaugeEnd h temperature => exact endSession_judged _ temperature s
  case gaugeAbort h => exact abortByRequest_judged _ s
  case issue h form => exact issueTicket_judged _ _ form s
  case cancel h ticket tag => exact cancelByNumber_judged _ ticket tag s
  case returnTool h tool loc => exact returnToCrib_judged tool loc s
  case setIssueMode h on => exact changeMode_judged on s
  case queryIssue h cls start => exact queryPool_judged cls start s
  case queryTicket h ticket => exact queryTicketImage_judged ticket s
  case configureChannel h channel enabled openWindow takeWindow =>
    exact configureDrawer_judged channel enabled openWindow takeWindow s
  case clearChannel h channel => exact clearDrawer_judged channel s
  case handover h ticket tag => exact handOver_judged ticket tag s
  case queryChannel h channel start => exact queryDrawer_judged channel start s
  case queryHandover h start => exact queryHandoverList_judged start s
  case mount h tool pocket => exact mountTool_judged _ tool pocket s
  case dismount h pocket => exact dismountPocket_judged _ pocket s
  case protect h pocket => exact setProtection_judged _ pocket true s
  case unprotect h pocket => exact setProtection_judged _ pocket false s
  case adjust h tool lengthDelta radiusDelta => exact adjustTool_judged tool lengthDelta radiusDelta s
  case resendHandoff h machine pocket => exact resendHandoffBlock_judged _ machine pocket s
  case queryPocket h machine pocket => exact queryMagazine_judged _ machine pocket s
  case storeProgram h program bytes => exact storeSteps_judged program bytes s
  case queryProgram h program => exact queryStored_judged program s
  case renderTest h program tool offset => exact testRender_judged program tool offset s
  case usage h pocket amount => exact reportUsage_judged _ _ pocket amount s
  case setSweep h period => exact .carriedOut rfl (.refl s)
  case setClient h client form => exact setEntry_judged client form s
  case queryClient h client => exact queryEntryOf_judged _ client s
  case attention h choice => exact .carriedOut rfl (.refl s)
  case setEnables h enables => exact .carriedOut rfl (.refl s)
  case restart h => exact .read ..
  case wipe h => exact wipeHall_judged s
  case identify h => exact .read ..
  all_goals exact .refused ..

end Sys2Proof.Machine

/-! ## Each configuration table has its writers (R10, R127, R151, R176, R191, R196, R200) -/

namespace Sys2Proof.Machine

/-- What holds of the hall as it was, and of the hall of a request carried out, holds after the reply. -/
theorem Reply.Judged.hall {s : Hall} {kept : Hall → Prop} {r : Reply} (judged : r.Judged s kept) (same : kept s) :
    kept r.hall := by
  cases judged with
  | refused code body => exact same
  | carriedOut done within => exact within

/-- A reply that refuses is no more than its code and its body. -/
theorem Reply.Judged.eq_refuseWith {s : Hall} {kept : Hall → Prop} {r : Reply} (judged : r.Judged s kept)
    (refuses : r.code.carriedOut = false) : r = refuseWith r.code r.body s := by
  cases judged with
  | refused code body => rfl
  | carriedOut done within => exact absurd done (Bool.eq_false_iff.mp refuses)

/-- With the tables a request may write put back, the hall keeps its tables and its flags. -/
theorem handle_settings (i : Instr) (s : Hall) : SettingsKept s (unwritten i.kind s (handle i s).hall) := by
  refine (handle_judged i s).hall ?_
  exact (SettingsKept.refl s).same (by simp [unwritten, Hall.settings]) (by simp [unwritten])

section Writers

variable {i : Instr} (s : Hall)

theorem handle_clients (other : i.kind ≠ some .setClient) : (handle i s).hall.clients = s.clients := by
  have kept := congrArg Settings.clients (handle_settings i s).settings
  simpa only [unwritten, Hall.settings, if_neg other] using kept

theorem handle_programs (other : i.kind ≠ some .storeProgram) : (handle i s).hall.programs = s.programs := by
  have kept := congrArg Settings.programs (handle_settings i s).settings
  simpa only [unwritten, Hall.settings, if_neg other] using kept

theorem handle_enables (other : i.kind ≠ some .setEnables) : (handle i s).hall.enables = s.enables := by
  have kept := congrArg Settings.enables (handle_settings i s).settings
  simpa only [unwritten, Hall.settings, if_neg other] using kept

theorem handle_sweep (other : i.kind ≠ some .setSweep) : (handle i s).hall.sweep = s.sweep := by
  have kept := congrArg Settings.sweep (handle_settings i s).settings
  simpa only [unwritten, Hall.settings, if_neg other] using kept

theorem handle_bindings (other : i.kind ∉ [some .mount, some .dismount, some .protect, some .unprotect, some .wipe]) :
    (handle i s).hall.bindings = s.bindings := by
  have kept := congrArg Settings.bindings (handle_settings i s).settings
  simpa only [unwritten, Hall.settings, if_neg other] using kept

theorem handle_index (other : i.kind ∉ [some .enrol, some .retire, some .wipe]) :
    (handle i s).hall.index = s.index := by
  have kept := congrArg Settings.index (handle_settings i s).settings
  simpa only [unwritten, Hall.settings, if_neg other] using kept

theorem handle_flags (other : i.kind ≠ some .attention) (f : Flag) (set : s.hasFlag f = true) :
    (handle i s).hall.hasFlag f = true := by
  have kept := (handle_settings i s).flags f.index set
  rwa [unwritten, if_neg other] at kept

end Writers

/-- Settles O22: put back, table by table, what the request's kind is a writer of. -/
theorem eachTableHasItsWriters : Obligations.EachTableHasItsWriters :=
  ⟨fun i s => ⟨handle_clients s, handle_programs s, handle_enables s, handle_sweep s, handle_bindings s,
    handle_index s, congrArg Settings.startKind (handle_settings i s).settings,
    congrArg Settings.startCause (handle_settings i s).settings⟩,
    fun _ s f other => handle_flags s other f⟩

end Sys2Proof.Machine

/-! ## Every step keeps the law of the client table (R191) -/

namespace Sys2Proof.Machine

/-- A station is taken as long as another client has it. -/
theorem stationTaken_of_client {s : Hall} {client other : Nat} {n : Fin 4} (ne : other ≠ client)
    (has : (s.client other).station = some n) : stationTaken client n s = true := by
  unfold Hall.client at has
  cases entry : s.clients.get other with
  | none => simp [entry, ClientEntry.station] at has
  | some e =>
    rw [entry, Option.getD_some] at has
    exact List.any_eq_true.mpr ⟨(other, e), mem_of_get _ _ _ entry, by simp [ne, has]⟩

theorem coldStart_client (levels : Vector DrawerLevel 16) (s : Hall) (n : Nat) :
    (coldStart levels s).client n = if 0 = n then .toolroom else .none :=
  putClient_client { s with clients := [] } 0 n .toolroom

namespace ClientLaw

variable {s t : Hall}

/-- The law speaks of the client table alone. -/
theorem congr (h : ClientLaw s) (clients : t.clients = s.clients) : ClientLaw t := by
  have same (n : Nat) : t.client n = s.client n := by rw [Hall.client, Hall.client, clients]
  exact ⟨(same 0).trans h.toolroom, fun n => clients ▸ h.numbers n,
    fun m n => by rw [same m, same n]; exact h.stations m n⟩

theorem settingsKept (h : ClientLaw s) (k : SettingsKept s t) : ClientLaw t :=
  h.congr (congrArg Settings.clients k.settings)

/-- A change of role or station that takes no other client's station keeps the law, of any client but 0. -/
theorem putClient (h : ClientLaw s) {n : Nat} {e : ClientEntry} (low : 1 ≤ n) (high : n ≤ 63)
    (free : ∀ x, e.station = some x → stationTaken n x s = false) : ClientLaw (s.putClient n e) where
  toolroom := by
    rw [putClient_client, if_neg (by omega)]
    exact h.toolroom
  numbers m entered := by
    by_cases hm : n = m
    · omega
    · refine h.numbers m ?_
      cases e <;> simpa [Hall.putClient, get_put, get_del, hm] using entered
  stations := by
    have apart {m : Nat} (hm : n ≠ m) (has : e.station.isSome = true) : e.station ≠ (s.client m).station := by
      obtain ⟨x, hx⟩ := Option.isSome_iff_exists.mp has
      intro same
      have taken := stationTaken_of_client (Ne.symm hm) (same.symm.trans hx)
      rw [free x hx] at taken
      cases taken
    intro l m has same
    rw [putClient_client] at has
    rw [putClient_client, putClient_client] at same
    by_cases hl : n = l <;> by_cases hm : n = m
    · exact hl.symm.trans hm
    · rw [if_pos hl] at has same
      rw [if_neg hm] at same
      exact absurd same (apart hm has)
    · rw [if_neg hl] at has same
      rw [if_pos hm] at same
      exact absurd same.symm (apart hl (same ▸ has))
    · rw [if_neg hl] at has same
      rw [if_neg hm] at same
      exact h.stations l m has same

/-- SET-CLIENT writes a client other than 0 within its table, to a station no other client has (R192); no other request
writes the table. -/
theorem handle (h : ClientLaw s) (i : Instr) : ClientLaw (handle i s).hall := by
  by_cases own : i.kind = some .setClient
  · cases i
    case setClient hd client form =>
      change ClientLaw (setEntry client form s).hall
      obtain ⟨code, e⟩ | ⟨entry, body, low, high, free, e⟩ := setEntry_cases client form s <;> rw [e]
      · exact h
      · exact h.putClient low high free
    all_goals cases own
  · exact h.congr (handle_clients s own)

theorem cold (levels : Vector DrawerLevel 16) (s : Hall) : ClientLaw (coldStart levels s) where
  toolroom := rfl
  numbers n entered := by
    by_contra high
    change (Table.get [(0, ClientEntry.toolroom)] n).isSome = true at entered
    simp [Table.get, show 0 ≠ n by omega] at entered
  stations m n has := by
    rw [coldStart_client] at has
    split at has <;> cases has

theorem keptByUnits : KeptByUnits ClientLaw where
  overrun _ h := h.congr rfl
  request i _ h := h.handle i
  opened c s h := h.settingsKept (.openedEvent c s)
  closed c s h := h.settingsKept (.closedEvent c s)
  openExpiry c s h := h.settingsKept (.openExpiry c s)
  takeExpiry c s h := h.settingsKept (.takeExpiry c s)
  gaugeExpiry n s h := h.settingsKept (.gaugeExpiry n s)
  sweep s h := by
    obtain ⟨_, _, _, _, _, _, only⟩ := sweepEvent_only s
    rw [only]
    exact h.congr rfl
  second _ h := h.congr rfl
  warm _ _ h := h.congr rfl
  filters _ _ h := h.congr rfl
  cold levels s _ := cold levels s

end ClientLaw

/-- Settles O5: every unit's operation keeps the law, so every step does. -/
theorem everyStepKeepsClientLaw : Obligations.EveryStepKeepsClientLaw :=
  fun _ _ h ht => ClientLaw.keptByUnits.step h ht

end Sys2Proof.Machine

/-! ## The answer of the port: one response, refusals without effect, the checks in their order (R186, R188 to R190) -/

namespace Sys2Proof.Machine

/-- Settles O1: the front command of the queue, by the definition of a step. -/
theorem stepRunsFrontCommand : Obligations.StepRunsFrontCommand := by
  intro c rest s
  rfl

/-! ### One response, then notices -/

/-- An answer that finds a place leaves at most 32 messages, whatever notices ask for places behind it. -/
theorem placeAnswer_length (a : Answer) (s : State) (room : s.port.outbound.length + s.port.kept < 32) :
    (placeAnswer a s).port.outbound.length ≤ 32 := by
  refine Nat.le_of_add_right_le ((placeNotices_length a.notices _).2 ?_)
  simp only [Port.kept, List.length_append, List.length_cons, List.length_nil] at room ⊢
  omega

theorem placeAnswer_pending (a : Answer) (s : State) : (placeAnswer a s).pending = s.pending :=
  (placeNotices_frame a.notices _).1

/-- Settles O10: the port answers at once, and its four free places hold the response at least. -/
theorem everyRequestGetsOneResponse : Obligations.EveryRequestGetsOneResponse := by
  intro i k h s hk hh hw ho
  obtain ⟨idle, -, places⟩ := mayTake_iff.mp ho.2
  have kept : s.port.kept = 0 := by simp [Port.kept, idle]
  rw [exec_open i k h s hk hh hw ho, answer]
  generalize answerRequest k h i s.hall = r
  obtain ⟨placed, -, outbound, -⟩ := placeAnswer_placed (r.answer k.code h.client h.tag) { s with hall := r.hall }
  exact ⟨drivePins _, r.code, r.body, placed, rfl, placeAnswer_pending _ _,
    (placeAnswer_inbound _ _).trans ho.1, outbound, placeAnswer_length _ _ (by dsimp only; omega)⟩

/-! ### A refusal -/

/-- A refusal that the port answers at once: its response, with kind code, client and tag as received, is all that
changes. -/
theorem drivePins_refusal {s : State} (ho : s.portOpen) (kindCode client : Byte) (tag : Word) {code : Code}
    (body : List Word) (refuses : code ≠ .ok) :
    drivePins (answer kindCode client tag (refuseWith code body s.hall) s) =
      { s with port := { s.port with
          outbound := s.port.outbound ++ [.response kindCode client tag code body]
          pins := ⟨true, true, attnLine s.hall, releaseLines s.hall⟩ } } := by
  obtain ⟨empty, may⟩ := ho
  obtain ⟨idle, -, places⟩ := mayTake_iff.mp may
  have start : startAfter kindCode code s.port.start = s.port.start := if_neg fun both => refuses both.2
  rw [answer, placeAnswer_room]
  · simp [drivePins, Reply.answer, refuseWith, start, Port.readyLine, empty, Config.inboundPlaces]
  · simp only [Reply.answer, refuseWith, Port.kept, idle, Option.isSome_none, List.length_nil, Bool.false_eq_true,
      if_false]
    omega

/-- The completion of a request that a check or its owning unit refuses. -/
theorem exec_refused {i : Instr} {k : Kind} {h : Header} {s : State} {code : Code} {body : List Word}
    (hk : i.kind = some k) (hh : i.header = some h) (hw : i.wellFormed = true) (ho : s.portOpen)
    (hr : answerRequest k h i s.hall = refuseWith code body s.hall) (refuses : code ≠ .ok) :
    exec i s = .next (s.answered k h code body [] s.hall) := by
  rw [exec_open i k h s hk hh hw ho, hr, drivePins_refusal ho _ _ _ _ refuses]
  rfl

/-- A check refuses without effect, and so does the owning unit. -/
theorem answerRequest_judged (k : Kind) (h : Header) (i : Instr) (s : Hall) :
    (answerRequest k h i s).Judged s fun t => SettingsKept s (unwritten i.kind s t) := by
  unfold answerRequest
  split
  · exact .refused ..
  split
  · exact .refused ..
  split
  · exact .refused ..
  · exact handle_judged i s

/-- Settles O11: a reply that is not carried out is no more than its code and its body. -/
theorem refusalChangesNothing : Obligations.RefusalChangesNothing := by
  intro i k h s hk hh hw ho refuses
  refine exec_refused hk hh hw ho ((answerRequest_judged k h i s.hall).eq_refuseWith refuses) ?_
  intro ok
  rw [ok] at refuses
  cases refuses

/-! ### The sender -/

/-- Settles O12: checks 1 and 2 come before the form and the owning unit; the summary is read off kind by kind. -/
theorem senderIsCheckedFirst : Obligations.SenderIsCheckedFirst := by
  constructor
  · intro i k h s hk hh hw ho
    refine ⟨fun high => ?_, fun low barred => ?_, rfl⟩
    · have check1 : answerRequest k h i s.hall = refuseWith .malformed [] s.hall := if_pos high
      exact exec_refused hk hh hw ho check1 (by decide)
    · have check2 : answerRequest k h i s.hall = refuseWith .notPermitted [] s.hall :=
        (if_neg (by omega)).trans (if_pos (by rw [barred]; rfl))
      exact exec_refused hk hh hw ho check2 (by decide)
  · intro k
    cases k <;> decide

/-! ### A message of the wrong form -/

/-- The kinds of wrong form that R189 names are refused, whichever of the checks finds them. -/
theorem answerWords_malformed {w0 w1 : Word} {body : List Word} {s : Hall}
    (wrong : typeOf w0 ≠ 1 ∨ 63 < (clientOf w0).toNat ∨ 62 < bodyLengthOf w0 ∨ Kind.ofCode (kindCodeOf w0) = none ∨
      ∃ k, Kind.ofCode (kindCodeOf w0) = some k ∧ roleAllows (s.client (clientOf w0).toNat).role k = true ∧
        decodeBody k ⟨clientOf w0, w1⟩ body = none) :
    answerWords w0 w1 body s = refuseWith .malformed [] s := by
  unfold answerWords
  split
  · rfl
  rename_i form
  obtain type | client | length | unknown | ⟨k, known, allowed, spells⟩ := wrong
  · exact absurd (.inl type) form
  · exact absurd (.inr (.inl client)) form
  · exact absurd (.inr (.inr length)) form
  · rw [unknown]
    rfl
  · rw [known]
    simp only [allowed, Bool.not_true, Bool.false_eq_true, if_false]
    rw [headerOf, spells]
    rfl

/-- Settles O13: the message is whole, so the port serves it, and its checks refuse it. -/
theorem malformedMessageIsAnswered : Obligations.MalformedMessageIsAnswered := by
  refine ⟨fun w0 w1 body s ho whole wrong => ?_, fun h p bytes s long => ?_, fun words s broken => ?_⟩
  · have formed : (Instr.malformedMessage (w0 :: w1 :: body)).wellFormed = true :=
      decide_eq_true (by rw [List.length_cons, whole, Nat.add_comm])
    have served : presentWords (w0 :: w1 :: body) s =
        answer (kindCodeOf w0) (clientOf w0) w1 (refuseWith .malformed [] s.hall) s :=
      (if_pos ho).trans (by rw [serveWords, answerWords_malformed wrong])
    change execMalformedMessage _ s = _
    rw [execMalformedMessage, if_pos formed, served, drivePins_refusal ho _ _ _ _ (by decide)]
  · have unformed : ¬(Instr.storeProgram h p bytes).wellFormed = true := by
      simpa [Instr.wellFormed] using long
    exact if_neg unformed
  · have unformed : ¬(Instr.malformedMessage words).wellFormed = true := Bool.eq_false_iff.mp broken
    exact if_neg unformed

/-! ### A notice -/

/-- Settles O16: a request in service keeps one place. -/
theorem noticeDroppedWhenQueueFull : Obligations.NoticeDroppedWhenQueueFull := by
  intro s n placed dropped
  constructor
  · intro idle
    have kept : s.port.kept = 0 := by simp [Port.kept, idle]
    exact ⟨fun room => placeNotice_room s n (by omega), fun full => placeNotice_full s n (by omega)⟩
  · intro a serving
    have kept : s.port.kept = 1 := by simp [Port.kept, serving]
    exact ⟨fun room => placeNotice_room s n (by omega), fun full => placeNotice_full s n (by omega)⟩

end Sys2Proof.Machine

/-! ## The words of a request spell it again (R203, R204, R207) -/

namespace Sys2Proof.Machine

/-! The library's lemmas on appended vectors speak of a sum of widths, which the index of `simp` does not find in the
width of a word: `simp -index` finds it by unification. -/

open BitVec (extractLsb'_append_eq_of_add_le extractLsb'_append_eq_of_le getLsbD_append)

theorem getLsbD_append_low {n m i : Nat} {x : BitVec n} {y : BitVec m} (low : i < m) :
    (x ++ y).getLsbD i = y.getLsbD i := by
  rw [getLsbD_append, if_pos low]

theorem getLsbD_append_high {n m i : Nat} {x : BitVec n} {y : BitVec m} (high : m ≤ i) :
    (x ++ y).getLsbD i = x.getLsbD (i - m) := by
  rw [getLsbD_append, if_neg (Nat.not_lt.mpr high)]

/-! ### The header -/

section Header

variable (type : BitVec 2) (length : BitVec 6) (client kind code : Byte)

theorem typeOf_headerWord : typeOf (headerWord type length client kind code) = type.toNat := by
  simp -index (disch := decide) only [typeOf, fieldOf, headerWord, extractLsb'_append_eq_of_le]
  simp

theorem clientOf_headerWord : clientOf (headerWord type length client kind code) = client := by
  simp -index (disch := decide) only [clientOf, headerWord, extractLsb'_append_eq_of_le,
    extractLsb'_append_eq_of_add_le]
  simp

theorem kindCodeOf_headerWord : kindCodeOf (headerWord type length client kind code) = kind := by
  simp -index (disch := decide) only [kindCodeOf, headerWord, extractLsb'_append_eq_of_le,
    extractLsb'_append_eq_of_add_le]
  simp

theorem bodyLengthOf_headerWord : bodyLengthOf (headerWord type length client kind code) = length.toNat := by
  simp -index (disch := decide) only [bodyLengthOf, headerWord, extractLsb'_append_eq_of_le,
    extractLsb'_append_eq_of_add_le]
  simp

end Header

theorem kind_ofCode_code (k : Kind) : Kind.ofCode k.code = some k := by
  cases k <;> rfl

/-! ### Coded fields -/

theorem choiceOf_choiceWord (b : Bool) : choiceOf (choiceWord b) = b := by
  cases b <;> rfl

theorem cribLocOf_word (loc : CribLoc) : cribLocOf loc.word = some loc := by
  cases loc with
  | drawer c b =>
    simp -index (disch := decide) only [cribLocOf, fieldOf, CribLoc.word, extractLsb'_append_eq_of_le,
      extractLsb'_append_eq_of_add_le]
    simp
  | shelf p =>
    simp -index (disch := decide) only [cribLocOf, fieldOf, CribLoc.word, extractLsb'_append_eq_of_le,
      extractLsb'_append_eq_of_add_le]
    simp

theorem trimOf_word (t : Trim) : trimOf t.word = t := by
  simp -index (disch := decide) only [trimOf, Trim.word, getLsbD_append_high, getLsbD_append_low,
    extractLsb'_append_eq_of_add_le]
  simp

theorem flagsOf_word (f : BitVec 7) : (0#25 ++ f).extractLsb' 0 7 = f := BitVec.extractLsb'_append_eq_right

theorem lifeKindOf_code (k : LifeKind) : lifeKindOf (BitVec.ofNat 32 k.code).toNat = some k := by
  cases k <;> rfl

theorem bandOf_code (b : Band) : bandOf (BitVec.ofNat 2 b.code).toNat = some b := by
  cases b <;> rfl

section Word1

variable (f : IssueForm)

theorem word1_band : bandOf (fieldOf f.word1 0 2) = some f.band := by
  simp -index (disch := decide) only [fieldOf, IssueForm.word1, extractLsb'_append_eq_of_add_le,
    BitVec.extractLsb'_eq_self, bandOf_code]

theorem word1_byTool : f.word1.getLsbD 2 = f.byTool := by
  simp -index (disch := decide) only [IssueForm.word1, getLsbD_append_low, getLsbD_append_high]
  simp

theorem word1_notify : f.word1.getLsbD 3 = f.notify := by
  simp -index (disch := decide) only [IssueForm.word1, getLsbD_append_low, getLsbD_append_high]
  simp

theorem word1_ranged : f.word1.getLsbD 4 = f.range.isSome := by
  simp -index (disch := decide) only [IssueForm.word1, getLsbD_append_low, getLsbD_append_high]
  simp

theorem word1_low : f.word1.extractLsb' 8 4 = (f.range.map Prod.fst).getD 0#4 := by
  simp -index (disch := decide) only [IssueForm.word1, extractLsb'_append_eq_of_le, extractLsb'_append_eq_of_add_le]
  simp

theorem word1_high : f.word1.extractLsb' 12 4 = (f.range.map Prod.snd).getD 0#4 := by
  simp -index (disch := decide) only [IssueForm.word1, extractLsb'_append_eq_of_le, extractLsb'_append_eq_of_add_le]
  simp

theorem word1_directed : f.word1.getLsbD 16 = f.dest.isSome := by
  simp -index (disch := decide) only [IssueForm.word1, getLsbD_append_low, getLsbD_append_high]
  simp

theorem word1_dest : f.word1.extractLsb' 24 8 = f.dest.getD 0#8 := by
  simp -index (disch := decide) only [IssueForm.word1, extractLsb'_append_eq_of_le]
  simp

theorem issueFormOf_words : issueFormOf f.target f.word1 f.life = some f := by
  rw [issueFormOf, word1_band, word1_byTool, word1_notify, word1_ranged, word1_low, word1_high, word1_directed,
    word1_dest]
  obtain ⟨byTool, target, band, notify, range, dest, life⟩ := f
  obtain _ | ⟨low, high⟩ := range <;> cases dest <;> rfl

end Word1

/-! ### Packed bytes -/

theorem wordBytes_append (a b c d : Byte) : wordBytes (a ++ b ++ c ++ d) = [a, b, c, d] := by
  simp -index (disch := decide) only [wordBytes, extractLsb'_append_eq_of_le, extractLsb'_append_eq_of_add_le]
  simp

theorem take_wordBytes_packBytes (bytes : List Byte) :
    ((packBytes bytes).flatMap wordBytes).take bytes.length = bytes := by
  induction bytes using packBytes.induct with
  | case1 => rfl
  | case2 a =>
    change [(a ++ 0#24).extractLsb' 24 8] = [a]
    simp -index (disch := decide) only [extractLsb'_append_eq_of_le]
    simp
  | case3 a b =>
    change [(a ++ b ++ 0#16).extractLsb' 24 8, (a ++ b ++ 0#16).extractLsb' 16 8] = [a, b]
    simp -index (disch := decide) only [extractLsb'_append_eq_of_le, extractLsb'_append_eq_of_add_le]
    simp
  | case4 a b c =>
    change [(a ++ b ++ c ++ 0#8).extractLsb' 24 8, (a ++ b ++ c ++ 0#8).extractLsb' 16 8,
      (a ++ b ++ c ++ 0#8).extractLsb' 8 8] = [a, b, c]
    simp -index (disch := decide) only [extractLsb'_append_eq_of_le, extractLsb'_append_eq_of_add_le]
    simp
  | case5 a b c d rest ih => simp [packBytes, wordBytes_append, ih]

/-! ### Bodies -/

theorem bodyWords_length_le {i : Instr} (hw : i.wellFormed = true) : (bodyWords i).length ≤ 62 := by
  cases i
  case enrol h tool cls loc life => exact Laws.BodyFits.enrol h tool cls loc life hw
  case cancel h ticket tag => exact Laws.BodyFits.cancel h ticket tag hw
  case handover h ticket tag => exact Laws.BodyFits.handover h ticket tag hw
  case resendHandoff h machine pocket => exact Laws.BodyFits.resendHandoff h machine pocket hw
  case storeProgram h program bytes => exact Laws.BodyFits.storeProgram h program bytes hw
  case setSweep h period => exact Laws.BodyFits.setSweep h period hw
  case setClient h client form => exact Laws.BodyFits.setClient h client form hw
  all_goals exact Nat.le_of_ble_eq_true rfl

/-- A STORE-PROGRAM's body spells it again, unless a kind byte is wrong (R207). -/
theorem decodeBody_storeProgram (h : Header) (program : Byte) {bytes : List Byte} (fits : bytes.length ≤ 244) :
    decodeBody .storeProgram h (bodyWords (.storeProgram h program bytes)) =
      if kindBytesOk bytes = true then some (.storeProgram h program bytes) else none := by
  have length : fieldOf (0#16 ++ BitVec.ofNat 8 bytes.length ++ program) 8 8 = bytes.length := by
    simp -index (disch := decide) only [fieldOf, extractLsb'_append_eq_of_le, extractLsb'_append_eq_of_add_le]
    simp only [Nat.sub_self, BitVec.extractLsb'_eq_self, BitVec.toNat_ofNat]
    omega
  have number : (0#16 ++ BitVec.ofNat 8 bytes.length ++ program).extractLsb' 0 8 = program := by
    simp -index (disch := decide) only [extractLsb'_append_eq_of_add_le, BitVec.extractLsb'_eq_self]
  simp only [decodeBody, bodyWords, length, number, take_wordBytes_packBytes, Laws.packBytes_length, true_and]

theorem decodeBody_setClient (h : Header) (client : Word) (form : ClientForm) :
    decodeBody .setClient h (client :: form.words) = some (.setClient h client form) := by
  cases form <;> rfl

/-- The body of a request spells it again; a STORE-PROGRAM needs right kind bytes. -/
theorem decodeBody_bodyWords {i : Instr} {k : Kind} {h : Header} (hk : i.kind = some k) (hh : i.header = some h)
    (hw : i.wellFormed = true) (steps : ∀ hd p bytes, i = .storeProgram hd p bytes → kindBytesOk bytes = true) :
    decodeBody k h (bodyWords i) = some i := by
  cases i
  all_goals cases hk <;> cases hh
  case storeProgram program bytes =>
    rw [decodeBody_storeProgram _ _ (of_decide_eq_true hw), if_pos (steps _ _ _ rfl)]
  case setClient client form => exact decodeBody_setClient h client form
  case enrol tool cls loc life => cases life <;> simp [decodeBody, bodyWords, cribLocOf_word]
  case cancel ticket tag => cases tag <;> rfl
  case handover ticket tag => cases tag <;> rfl
  case resendHandoff machine pocket => cases machine <;> rfl
  case setSweep period => cases period <;> rfl
  case defineClass cls shape policy =>
    simp only [decodeBody, bodyWords, lifeKindOf_code, choiceOf_choiceWord, Option.map_some]
  case attention choice => exact congrArg (fun f => some (Instr.attention _ f)) (flagsOf_word choice)
  case setEnables enables => exact congrArg (fun f => some (Instr.setEnables _ f)) (flagsOf_word enables)
  all_goals
    simp [decodeBody, bodyWords, cribLocOf_word, choiceOf_choiceWord, trimOf_word, issueFormOf_words]

/-- The message of a request: its header, its tag and its body. -/
theorem encode_request {i : Instr} {k : Kind} {h : Header} (hk : i.kind = some k) (hh : i.header = some h) :
    encode i = headerWord 1#2 (BitVec.ofNat 6 (bodyWords i).length) h.client k.code 0#8 :: h.tag :: bodyWords i := by
  simp only [encode, hk, hh]

/-- The header of a request names the length of its body. -/
theorem bodyLengthOf_encode {i : Instr} (hw : i.wellFormed = true) (client kind code : Byte) :
    bodyLengthOf (headerWord 1#2 (BitVec.ofNat 6 (bodyWords i).length) client kind code) = (bodyWords i).length := by
  have fits := bodyWords_length_le hw
  rw [bodyLengthOf_headerWord, BitVec.toNat_ofNat]
  omega

theorem oneMessage_encode {i : Instr} {k : Kind} {h : Header} (hk : i.kind = some k) (hh : i.header = some h)
    (hw : i.wellFormed = true) : oneMessage (encode i) = true := by
  rw [encode_request hk hh, oneMessage, bodyLengthOf_encode hw]
  simp [Nat.add_comm]

/-- A body that spells no request is refused by the form check as well: it is a STORE-PROGRAM with a wrong kind byte. -/
theorem decodeBody_bodyWords_cases {i : Instr} {k : Kind} {h : Header} (hk : i.kind = some k)
    (hh : i.header = some h) (hw : i.wellFormed = true) :
    decodeBody k h (bodyWords i) = some i ∨
      decodeBody k h (bodyWords i) = none ∧ ∀ role, bodyFormOk role i = false := by
  by_cases steps : ∀ hd p bytes, i = .storeProgram hd p bytes → kindBytesOk bytes = true
  · exact .inl (decodeBody_bodyWords hk hh hw steps)
  · push Not at steps
    obtain ⟨hd, p, bytes, rfl, wrong⟩ := steps
    cases hk
    cases hh
    exact .inr ⟨(decodeBody_storeProgram h p (of_decide_eq_true hw)).trans (if_neg wrong),
      fun _ => Bool.eq_false_iff.mpr wrong⟩

/-- The words of a request are answered as the request is. -/
theorem answerWords_encode {i : Instr} {k : Kind} {h : Header} (hk : i.kind = some k) (hh : i.header = some h)
    (hw : i.wellFormed = true) (s : Hall) :
    answerWords (headerWord 1#2 (BitVec.ofNat 6 (bodyWords i).length) h.client k.code 0#8) h.tag (bodyWords i) s =
      answerRequest k h i s := by
  have fits := bodyWords_length_le hw
  simp only [answerWords, headerOf, typeOf_headerWord, clientOf_headerWord, kindCodeOf_headerWord,
    bodyLengthOf_encode hw, kind_ofCode_code]
  by_cases high : 63 < h.client.toNat
  · rw [if_pos (.inr (.inl high)), answerRequest, if_pos high]
  rw [if_neg (by simp [high, fits])]
  obtain spelled | ⟨unspelled, wrong⟩ := decodeBody_bodyWords_cases hk hh hw
  · rw [spelled]
    split
    · rename_i barred
      rw [answerRequest, if_neg high, if_pos barred]
    · rfl
  · rw [unspelled, answerRequest, if_neg high, wrong]
    rfl

end Sys2Proof.Machine

/-! ## Words written, messages taken and read (R186 to R188, R201) -/

namespace Sys2Proof.Machine

/-! ### A partly written message -/

/-- The state with another inbound queue. -/
def State.withInbound (s : State) (queue : List (List Word)) : State :=
  { s with port := { s.port with inbound := queue } }

theorem withInbound_self {s : State} {queue : List (List Word)} (h : s.port.inbound = queue) :
    s.withInbound queue = s := by
  rw [← h]
  rfl

/-- Words that a further word makes one message are not one yet. -/
theorem not_oneMessage_of_append {m : List Word} {w : Word} {rest : List Word}
    (whole : oneMessage (m ++ w :: rest) = true) : oneMessage m = false := by
  cases m with
  | nil => rfl
  | cons w0 words =>
    simp only [oneMessage, List.cons_append, List.length_append, List.length_cons, decide_eq_true_eq,
      decide_eq_false_iff_not] at whole ⊢
    omega

theorem portTake_of_empty {s : State} (empty : s.port.inbound = []) : portTake s = s := by
  rw [portTake, empty]

theorem portTake_of_not_mayTake {s : State} (busy : s.port.mayTake = false) : portTake s = s := by
  obtain ⟨-, same⟩ | ⟨m, rest, -, -, may, -⟩ := portTake_cases s
  · exact same
  · rw [busy] at may
    cases may

theorem portTake_cons (s : State) (m : List Word) (rest : List (List Word)) :
    portTake (s.withInbound (m :: rest)) =
      if oneMessage m && s.port.mayTake then takeWords m (s.withInbound rest) else s.withInbound (m :: rest) := rfl

/-- The port takes no message that is not complete. -/
theorem portTake_partial (s : State) {m : List Word} (unfinished : oneMessage m = false) :
    portTake (s.withInbound [m]) = s.withInbound [m] := by
  rw [portTake_cons, unfinished, Bool.false_and]
  rfl

/-- The port takes the oldest message once it is complete, when it may take one. -/
theorem portTake_whole {s : State} {m : List Word} (rest : List (List Word)) (whole : oneMessage m = true)
    (may : s.port.mayTake = true) : portTake (s.withInbound (m :: rest)) = takeWords m (s.withInbound rest) := by
  rw [portTake_cons, whole, may]
  rfl

theorem readyLine_of_short {p : Port} (room : p.inbound.length < 16) : p.readyLine = true := by
  simp [Port.readyLine, Config.inboundPlaces, room]

/-! ### Writing words -/

theorem writeWord_ready {s : State} (w : Word) (room : s.port.inbound.length < 16) :
    writeWord s w = portTake (s.withInbound (writeInto w s.port.inbound)) := by
  rw [writeWord, if_pos (readyLine_of_short room)]
  rfl

/-- The first word of a message takes a place; the message is not complete with it. -/
theorem writeWord_first {s : State} (w : Word) (empty : s.port.inbound = []) :
    writeWord s w = s.withInbound [[w]] := by
  rw [writeWord_ready w (by simp [empty]), empty]
  exact portTake_partial s (decide_eq_false (by rw [List.length_nil]; omega))

/-- A later word joins the partly written message, and the port looks whether it is complete. -/
theorem writeWord_later {s : State} {m : List Word} (w : Word) (queue : s.port.inbound = [m])
    (unfinished : oneMessage m = false) : writeWord s w = portTake (s.withInbound [m ++ [w]]) := by
  rw [writeWord_ready w (by simp [queue]), queue, writeInto, if_neg (Bool.eq_false_iff.mp unfinished)]

/-- The words that complete a partly written message: the port looks for a message to take at the last. -/
theorem writeWords_completing {s : State} {m : List Word} {w : Word} {rest : List Word}
    (whole : oneMessage (m ++ w :: rest) = true) :
    writeWords (w :: rest) (s.withInbound [m]) = portTake (s.withInbound [m ++ w :: rest]) := by
  induction rest generalizing m w with
  | nil => exact writeWord_later (s := s.withInbound [m]) w rfl (not_oneMessage_of_append whole)
  | cons next rest ih =>
    have joined : writeWord (s.withInbound [m]) w = s.withInbound [m ++ [w]] := by
      rw [writeWord_later (s := s.withInbound [m]) w rfl (not_oneMessage_of_append whole)]
      rw [List.append_cons] at whole
      exact portTake_partial s (not_oneMessage_of_append whole)
    change writeWords (next :: rest) (writeWord (s.withInbound [m]) w) = _
    rw [List.append_cons] at whole ⊢
    rw [joined, ih whole]

/-- The words of one whole message, written to an empty queue: the port looks for a message to take at the last. -/
theorem writeWords_whole {words : List Word} (whole : oneMessage words = true) {s : State}
    (empty : s.port.inbound = []) : writeWords words s = portTake (s.withInbound [words]) := by
  obtain ⟨w0, w1, body, rfl⟩ := oneMessage_header whole
  change writeWords (w1 :: body) (writeWord s w0) = _
  rw [writeWord_first w0 empty]
  exact writeWords_completing (m := [w0]) whole

/-- Settles O14: a word counts while ready is asserted, and a message that it leaves partly written is not taken. -/
theorem wordWrittenJoinsInboundQueue : Obligations.WordWrittenJoinsInboundQueue := by
  intro w s
  refine ⟨fun empty => ?_, fun w0 words queue short => ?_, fun withheld => ?_⟩
  · change Host.Outcome.next (drivePins (writeWord s w)) = _
    rw [writeWord_first w empty]
    rfl
  · have unfinished : oneMessage (w0 :: words) = false := decide_eq_false (by omega)
    have still : oneMessage ((w0 :: words) ++ [w]) = false := by
      simp only [oneMessage, List.cons_append, List.length_append, List.length_singleton, decide_eq_false_iff_not]
      omega
    change Host.Outcome.next (drivePins (writeWord s w)) = _
    rw [writeWord_later w queue unfinished, portTake_partial s still]
    rfl
  · change Host.Outcome.next (drivePins (writeWord s w)) = _
    rw [writeWord, if_neg (Bool.eq_false_iff.mp withheld), drivePins, withheld]

/-! ### The lines do not bear on the port -/

theorem takeWords_withPins (words : List Word) (s : State) (pins : Pins) :
    takeWords words (s.withPins pins) = (takeWords words s).withPins pins := by
  unfold takeWords
  split <;> rfl

theorem portTake_withPins (s : State) (pins : Pins) : portTake (s.withPins pins) = (portTake s).withPins pins := by
  cases queue : s.port.inbound with
  | nil => rw [portTake_of_empty queue, portTake_of_empty (s := s.withPins pins) queue]
  | cons m rest =>
    rw [← withInbound_self queue]
    change portTake ((s.withPins pins).withInbound (m :: rest)) = _
    rw [portTake_cons, portTake_cons, apply_ite (State.withPins · pins), ← takeWords_withPins]
    rfl

theorem writeWord_withPins (s : State) (pins : Pins) (w : Word) :
    writeWord (s.withPins pins) w = (writeWord s w).withPins pins := by
  unfold writeWord
  rw [apply_ite (State.withPins · pins), ← portTake_withPins]
  rfl

theorem writeWords_withPins (words : List Word) (s : State) (pins : Pins) :
    writeWords words (s.withPins pins) = (writeWords words s).withPins pins := by
  induction words generalizing s with
  | nil => rfl
  | cons w rest ih =>
    change writeWords rest (writeWord (s.withPins pins) w) = _
    rw [writeWord_withPins, ih]
    rfl

theorem placeAnswer_withPins (a : Answer) (s : State) (pins : Pins) :
    placeAnswer a (s.withPins pins) = (placeAnswer a s).withPins pins := by
  unfold placeAnswer
  rw [← placeNotices_withPins]
  rfl

/-- Driving the lines after each word, as the commands do, comes to driving them after the last. -/
theorem runAll_words (w : Word) (rest : List Word) (s : State) :
    runAll ((w :: rest).map .messageWordWritten) s = .next (drivePins (writeWords (w :: rest) s)) := by
  induction rest generalizing w s with
  | nil => rfl
  | cons next rest ih =>
    change runAll ((next :: rest).map .messageWordWritten) (drivePins (writeWord s w)) = _
    rw [ih, drivePins_eq_withPins (writeWord s w), writeWords_withPins, drivePins_withPins]
    rfl

/-! ### A request by its words -/

/-- The state after a message is taken: its unit's changes are made, and what it places waits. -/
def State.taking (s : State) (a : Answer) (hall : Hall) : State :=
  { s with hall := hall, port := { s.port with serving := some a } }

/-- Words of a request written to an open port: with the last the request is taken. -/
theorem writeWords_encode {i : Instr} {k : Kind} {h : Header} {s : State} (hk : i.kind = some k)
    (hh : i.header = some h) (hw : i.wellFormed = true) (ho : s.portOpen) :
    writeWords (encode i) s =
      s.taking ((answerRequest k h i s.hall).answer k.code h.client h.tag) (answerRequest k h i s.hall).hall := by
  obtain ⟨empty, may⟩ := ho
  have whole := oneMessage_encode hk hh hw
  rw [writeWords_whole whole empty, portTake_whole [] whole may, withInbound_self empty, encode_request hk hh,
    takeWords_eq, answerWords_encode hk hh hw, kindCodeOf_headerWord, clientOf_headerWord]
  rfl

/-- On an empty queue the port places what the request in service still has to place. -/
theorem idle_serving {s : State} {a : Answer} (start : s.port.start = .none) (serving : s.port.serving = some a) :
    idle s = drivePins (finishServing a s) := by
  unfold idle
  rw [if_neg (by rw [start]; decide), serving]

/-- Placed on an empty queue, a request taken comes to the answer given at once. -/
theorem idle_taking {s : State} (ho : s.portOpen) (kindCode client : Byte) (tag : Word) (r : Reply) (pins : Pins) :
    idle ((s.taking (r.answer kindCode client tag) r.hall).withPins pins) =
      drivePins (answer kindCode client tag r s) := by
  obtain ⟨empty, may⟩ := ho
  obtain ⟨free, start, -⟩ := mayTake_iff.mp may
  generalize ha : r.answer kindCode client tag = a
  have served : finishServing a ((s.taking a r.hall).withPins pins) =
      portTake (placeAnswer a (({ s with hall := r.hall } : State).withPins pins)) := by
    rw [finishServing, State.withPins, State.taking, ← free]
    rfl
  have untaken : portTake (placeAnswer a { s with hall := r.hall }) = placeAnswer a { s with hall := r.hall } :=
    portTake_of_empty ((placeAnswer_inbound _ _).trans empty)
  rw [idle_serving (s := (s.taking a r.hall).withPins pins) start rfl, served, placeAnswer_withPins,
    portTake_withPins, drivePins_withPins, untaken, answer, ha]

/-- Settles O9: the last word has the request taken, and the next step places what the command places at once. -/
theorem writingWordsEqualsPresenting : Obligations.WritingWordsEqualsPresenting := by
  intro i k h s hk hh hw ho
  have written : runAll ((encode i).map .messageWordWritten) s = .next (drivePins
      (s.taking ((answerRequest k h i s.hall).answer k.code h.client h.tag) (answerRequest k h i s.hall).hall)) := by
    rw [← writeWords_encode hk hh hw ho, encode_request hk hh]
    exact runAll_words ..
  have ready : s.port.readyLine = true := readyLine_of_short (by simp [ho.1])
  refine ⟨_, written, ?_, ?_⟩
  · change State.withPins _ _ = _
    rw [show (s.taking _ _).port.readyLine = true from ready]
    rfl
  · rw [exec_open i k h { s with pending := [] } hk hh hw ho]
    exact congrArg Host.Outcome.next (idle_taking (s := { s with pending := [] }) ho _ _ _ _ _)

end Sys2Proof.Machine

/-! ## The outbound queue read, and the start that RESTART asks for (R187, R188, R190, R198) -/

namespace Sys2Proof.Machine

/-! ### Reading a word -/

theorem exec_messageRead (s : State) : exec .messageRead s = .next (drivePins (readMessage s)) := rfl

section Read

variable {s : State} {m : OutMessage} {rest : List OutMessage} {w : Word}

theorem readMessage_none (empty : s.port.outbound = []) :
    readMessage s = { s with port := { s.port with readOut := 0 } } := by
  rw [readMessage, empty]

/-- A word before the last. -/
theorem readMessage_within (head : s.port.outbound = m :: rest) (next : m.words[s.port.readCount]? = some w)
    (more : s.port.readCount + 1 < m.words.length) :
    readMessage s = { s with port := { s.port with readCount := s.port.readCount + 1, readOut := w } } := by
  rw [readMessage, head]
  simp only [if_pos more, List.getD_eq_getElem?_getD, next, Option.getD_some]

/-- The start phase once the last word of a message is read (R198). -/
def startAfterReading (m : OutMessage) (start : StartPhase) : StartPhase :=
  if start = .pending ∧ m.isRestartAnswer = true then .due else start

/-- The state once the last word of the head message is read, before the port looks for a message to take. -/
def State.headRead (s : State) (m : OutMessage) (rest : List OutMessage) (w : Word) : State :=
  { s with port := { s.port with
      outbound := rest, readCount := 0, start := startAfterReading m s.port.start, readOut := w } }

/-- The last word: the message leaves the queue, and the port looks for a message to take. -/
theorem readMessage_last (head : s.port.outbound = m :: rest) (next : m.words[s.port.readCount]? = some w)
    (last : s.port.readCount + 1 = m.words.length) : readMessage s = portTake (s.headRead m rest w) := by
  have done : ¬s.port.readCount + 1 < m.words.length := by omega
  rw [readMessage, head]
  simp only [if_neg done, List.getD_eq_getElem?_getD, next, Option.getD_some]
  rfl

theorem startAfterReading_none (m : OutMessage) : startAfterReading m .none = .none := if_neg (by simp)

end Read

/-! ### Placing on what is free -/

/-- The state once a response has its place, before its notices are placed. -/
def State.responded (s : State) (a : Answer) : State :=
  { s with port := { s.port with
      outbound := s.port.outbound ++ [.response a.kindCode a.client a.tag a.code a.body]
      start := startAfter a.kindCode a.code s.port.start } }

theorem placeAnswer_eq (a : Answer) (s : State) : placeAnswer a s = placeNotices a.notices (s.responded a) := rfl

theorem responded_length (a : Answer) (s : State) :
    (s.responded a).port.outbound.length = s.port.outbound.length + 1 := List.length_append

theorem placeAnswer_longer (a : Answer) (s : State) :
    s.port.outbound.length + 1 ≤ (placeAnswer a s).port.outbound.length := by
  rw [placeAnswer_eq, ← responded_length a]
  exact (placeNotices_length ..).1

theorem placeAnswer_serving (a : Answer) (s : State) : (placeAnswer a s).port.serving = s.port.serving := by
  obtain ⟨-, -, -, serving, -⟩ := placeNotices_frame a.notices (s.responded a)
  exact serving

/-- A response that finds a place takes it, and of its notices as many follow as the queue holds. -/
theorem placeAnswer_take (a : Answer) {s : State} (free : s.port.serving = none) (room : s.port.outbound.length < 32) :
    (placeAnswer a s).port.outbound = (s.port.outbound ++
        .response a.kindCode a.client a.tag a.code a.body :: a.notices.map OutMessage.notice).take 32 ∧
      (placeAnswer a s).hall =
        if s.port.outbound.length + 1 + a.notices.length ≤ 32 then s.hall else setFlag .overrun s.hall := by
  have kept : (s.responded a).port.kept = 0 := by simp [State.responded, Port.kept, free]
  have length := responded_length a s
  obtain ⟨outbound, hall⟩ := placeNotices_take a.notices (s.responded a) (by rw [State.roomFor]; omega)
  rw [kept] at outbound
  simp only [State.roomFor, kept, length, Nat.add_zero] at hall
  exact ⟨outbound.trans (by simp [State.responded]), hall⟩

/-- On an empty queue the port places what the request in service still has to place; behind 28 messages that leaves no
4 places for a further request. -/
theorem idle_serving_last {s : State} {a : Answer} (start : s.port.start = .none) (serving : s.port.serving = some a)
    (four : s.port.outbound.length = 28) :
    (idle s).port.serving = none ∧ (idle s).port.inbound = s.port.inbound ∧
      (idle s).port.outbound = (s.port.outbound ++
        .response a.kindCode a.client a.tag a.code a.body :: a.notices.map OutMessage.notice).take 32 ∧
      (idle s).hall = if a.notices.length ≤ 3 then s.hall else setFlag .overrun s.hall := by
  rw [idle_serving start serving, finishServing]
  generalize free : ({ s with port := { s.port with serving := none } } : State) = f
  have length : f.port.outbound.length = 28 := by rw [← free, ← four]
  have unserved : f.port.serving = none := by rw [← free]
  have full : (placeAnswer a f).port.mayTake = false := by
    rw [Bool.eq_false_iff, ne_eq, mayTake_iff]
    have longer := placeAnswer_longer a f
    omega
  obtain ⟨outbound, hall⟩ := placeAnswer_take a unserved (by omega)
  rw [portTake_of_not_mayTake full]
  refine ⟨(placeAnswer_serving a f).trans unserved, ?_, ?_, ?_⟩
  · rw [drivePins_inbound, placeAnswer_inbound, ← free]
  · rw [drivePins_outbound, outbound, ← free]
  · rw [drivePins_hall, hall, length, ← free]
    exact if_congr (by omega) rfl rfl

/-- Settles O15: the reading by the word it gives, and the taking when the 28 messages left leave 4 places free. -/
theorem messageReadFreesItsPlace : Obligations.MessageReadFreesItsPlace := by
  refine ⟨fun s empty => ?_, fun s m rest w head next => ⟨fun more => ?_, fun last inbound start => ?_⟩, ?_⟩
  · rw [exec_messageRead, readMessage_none empty, drivePins, empty]
    rfl
  · rw [exec_messageRead, readMessage_within head next more, drivePins, head]
    rfl
  · have ready : s.port.readyLine = true := readyLine_of_short (by simp [inbound])
    rw [exec_messageRead, readMessage_last head next last,
      portTake_of_empty (s := s.headRead m rest w) inbound, State.headRead, start, startAfterReading_none, ← start,
      ← ready]
    rfl
  · intro s m rest w w0 w1 body later head four next last start free queue whole r
    have started : (s.headRead m rest w).port.start = .none := by
      rw [State.headRead, start]
      exact startAfterReading_none m
    have may : (s.headRead m rest w).port.mayTake = true :=
      mayTake_iff.mpr ⟨free, started, by rw [State.headRead, four]⟩
    have read : readMessage s = takeWords (w0 :: w1 :: body) ((s.headRead m rest w).withInbound later) := by
      rw [readMessage_last head next last,
        ← withInbound_self (s := s.headRead m rest w) (queue := (w0 :: w1 :: body) :: later) queue]
      exact portTake_whole later (decide_eq_true (by rw [List.length_cons, whole, Nat.add_comm])) may
    let t := drivePins (((s.headRead m rest w).withInbound later).taking
      (r.answer (kindCodeOf w0) (clientOf w0) w1) r.hall)
    have taken : exec .messageRead s = .next t := by
      rw [exec_messageRead, read, takeWords_eq]
      rfl
    exact ⟨t, idle { t with pending := [] }, taken, rfl, rfl, rfl, rfl, rfl, rfl,
      idle_serving_last (s := { t with pending := [] }) started rfl four⟩

/-! ### RESTART -/

/-- A request command presents its message, and the lines follow. -/
theorem exec_presents {i : Instr} {k : Kind} {s : State} (hk : i.kind = some k) (hw : i.wellFormed = true) :
    exec i s = .next (drivePins (present i s)) := by
  cases i
  case storeProgram h program bytes => exact if_pos hw
  all_goals cases hk <;> rfl

/-- A request that the port may not take: its words wait. -/
theorem present_waits {i : Instr} {k : Kind} {h : Header} {s : State} (hk : i.kind = some k) (hh : i.header = some h)
    (hw : i.wellFormed = true) (empty : s.port.inbound = []) (busy : s.port.mayTake = false) :
    present i s = s.withInbound [encode i] := by
  have shut : ¬(s.port.inbound = [] ∧ s.port.mayTake = true) := by simp [busy]
  simp only [present, hk, hh, if_neg shut]
  rw [writeWords_whole (oneMessage_encode hk hh hw) empty]
  exact portTake_of_not_mayTake (s := s.withInbound [encode i]) busy

/-- Settles O17: the response is read out before the start is due, and until then, or while a request is in service, the
port takes nothing. -/
theorem restartWaitsForItsResponse : Obligations.RestartWaitsForItsResponse := by
  refine ⟨⟨fun h s ha => ?_, fun s client tag w body rest pending head next last => ?_, fun s due => ?_,
    fun s other => ?_⟩, fun i k h s hk hh hw busy empty => ?_⟩
  · obtain ⟨⟨empty, may⟩, -, -⟩ := id ha
    obtain ⟨free, -, places⟩ := mayTake_iff.mp may
    rw [exec_admitted (.restart h) .restart h s rfl rfl ⟨rfl, rfl⟩ ha, answer, placeAnswer_room]
    · simp [drivePins, Reply.answer, handle, answerRestart, accept, startAfter, Kind.code, Port.readyLine, empty,
        Config.inboundPlaces]
    · simp only [Reply.answer, handle, answerRestart, accept, Port.kept, free, Option.isSome_none, List.length_nil,
        Bool.false_eq_true, if_false]
      omega
  · have shut : (s.headRead (.response 0x74#8 client tag .ok body) rest w).port.mayTake = false := by
      rw [Bool.eq_false_iff, ne_eq, mayTake_iff, State.headRead, pending]
      rintro ⟨-, start, -⟩
      cases start
    rw [exec_messageRead, readMessage_last head next last, portTake_of_not_mayTake shut, State.headRead, pending]
    rfl
  · change Host.Outcome.next (drivePins (startByRestart s)) = _
    rw [startByRestart, if_pos due]
    rfl
  · change Host.Outcome.next (drivePins (startByRestart s)) = _
    rw [startByRestart, if_neg other]
  · have shut : s.port.mayTake = false := by
      rw [Bool.eq_false_iff, ne_eq, mayTake_iff]
      rintro ⟨free, start, -⟩
      exact busy.elim (fun other => other start) (fun other => other free)
    refine ⟨_, exec_presents hk hw, ?_⟩
    rw [present_waits hk hh hw empty shut]
    exact ⟨rfl, rfl, rfl, rfl⟩

end Sys2Proof.Machine

/-! ## The port's own requests (R191 to R193, R195, R196, R199) -/

namespace Sys2Proof.Machine

/-! ### SET-CLIENT -/

section Entry

variable {client : Word} {form : ClientForm} {e : ClientEntry} {s : Hall}

/-- SET-CLIENT is carried out when no other client has the station and a change of role or station finds no work. -/
theorem setEntry_accepted (low : 1 ≤ client.toNat) (high : client.toNat ≤ 63) (valid : clientEntryOf form = some e)
    (free : ∀ n, e.station = some n → stationTaken client.toNat n s = false)
    (still : (e.role = (s.client client.toNat).role ∧ e.station = (s.client client.toNat).station) ∨
      clientHasWork client.toNat s = false) :
    setEntry client form s = accept (e.words ++ [markWord (decide (e.role ≠ (s.client client.toNat).role))])
      (s.putClient client.toNat e) := by
  rw [setEntry_eq low high valid, if_neg, if_neg]
  · rcases still with ⟨role, station⟩ | idle
    · simp [role, station]
    · simp [idle]
  · simpa [Option.any_eq_true] using free

theorem setEntry_formless (low : 1 ≤ client.toNat) (high : client.toNat ≤ 63) (invalid : clientEntryOf form = none) :
    setEntry client form s = refuse .range s := by
  unfold setEntry
  rw [if_neg (by omega), if_neg (by omega), invalid]

theorem setEntry_stationTaken (low : 1 ≤ client.toNat) (high : client.toNat ≤ 63)
    (valid : clientEntryOf form = some e) {n : Fin 4} (names : e.station = some n)
    (taken : stationTaken client.toNat n s = true) : setEntry client form s = refuse .stationTaken s := by
  rw [setEntry_eq low high valid, if_pos]
  rw [names]
  exact taken

theorem setEntry_clientBusy (low : 1 ≤ client.toNat) (high : client.toNat ≤ 63) (valid : clientEntryOf form = some e)
    (free : ∀ n, e.station = some n → stationTaken client.toNat n s = false)
    (change : e.role ≠ (s.client client.toNat).role ∨ e.station ≠ (s.client client.toNat).station)
    (work : clientHasWork client.toNat s = true) : setEntry client form s = refuse .clientBusy s := by
  rw [setEntry_eq low high valid, if_neg, if_pos]
  · simp [change, work]
  · simpa [Option.any_eq_true] using free

end Entry

/-! The forms -/

theorem clientEntryOf_presetter_high {station : Word} (high : 3 < station.toNat) :
    clientEntryOf (.presetter station) = none := by
  have beyond : stationOf station = none := dif_neg (by omega)
  simp [clientEntryOf, beyond]

theorem clientEntryOf_presetter {station : Word} {n : Fin 4} (h : station.toNat = n.val) :
    clientEntryOf (.presetter station) = some (.presetter n) := by
  simp [clientEntryOf, stationOf_eq h]

theorem offsetInRange_signedOf (o : Word) :
    offsetInRange (signedOf o) = true ↔ -1000000 ≤ o.toInt ∧ o.toInt ≤ 1000000 := decide_eq_true_iff

/-- A MACHINE's entry: its fields within their ranges, the severity clamped (R192). -/
theorem clientEntryOf_machine {p k v o : Word} (hp : p.toNat ≤ 15) :
    clientEntryOf (.machine p k v o) =
      if 1 ≤ k.toNat ∧ k.toNat ≤ 240 ∧ -1000000 ≤ o.toInt ∧ o.toInt ≤ 1000000 then
        some (.machine ⟨p.toNat, Nat.lt_succ_of_le hp⟩ k.toNat (clampNat 1 255 v.toNat) o.toInt)
      else none := by
  simp only [clientEntryOf, programOf_eq hp, offsetInRange_signedOf]
  rfl

theorem clientEntryOf_machine_high {p k v o : Word} (high : 15 < p.toNat) :
    clientEntryOf (.machine p k v o) = none := by
  have beyond : programOf p = none := dif_neg (by omega)
  simp only [clientEntryOf, beyond]

/-! The work of a client -/

theorem clientHasWork_of_binding {s : Hall} {client : Nat} {x : Nat × Binding} (listed : x ∈ s.bindings)
    (names : x.2.client = client) : clientHasWork client s = true := by
  have counted : 0 < clientBindings client s :=
    List.length_pos_of_mem (List.mem_filter.mpr ⟨listed, beq_iff_eq.mpr names⟩)
  simp [clientHasWork, counted]

theorem clientHasWork_of_ticket {s : Hall} {client : Nat} {x : Nat × Ticket} (listed : x ∈ s.tickets)
    (names : x.2.requester = client ∨ x.2.dest = some client) : clientHasWork client s = true := by
  have counted : 0 < clientTickets client s :=
    List.length_pos_of_mem (List.mem_filter.mpr ⟨listed, by simpa using names⟩)
  simp [clientHasWork, counted]

theorem clientHasWork_of_gauging {s : Hall} {client : Nat} {n : Fin 4} (has : (s.client client).station = some n)
    (gauging : (s.station n).state.isGauging = true) : clientHasWork client s = true := by
  simp [clientHasWork, clientGauging, has, gauging]

/-- Settles O20: the checks of R192 in their order, each from the field, the table or the work it looks at. -/
theorem setClientWritesTheEntry : Obligations.SetClientWritesTheEntry := by
  refine ⟨fun h client form e s ha low high valid free still => ?_, ⟨putClient_client, fun p k v o e valid => ?_⟩,
    fun h client form s ha => ?_⟩
  · exact exec_quiet ha ⟨rfl, rfl⟩ (setEntry_accepted low high valid free still) rfl rfl (by decide)
  · by_cases hp : p.toNat ≤ 15
    · rw [clientEntryOf_machine hp] at valid
      split at valid
      · rename_i fields
        obtain ⟨k1, k2, o1, o2⟩ := fields
        refine ⟨⟨p.toNat, Nat.lt_succ_of_le hp⟩, rfl, k1, k2, o1, o2, ?_⟩
        rw [← Option.some.inj valid, clampNat]
        simp only [Nat.lt_one_iff]
      · cases valid
    · rw [clientEntryOf_machine_high (by omega)] at valid
      cases valid
  · intro refused
    have answers {code : Code} (e : setEntry client form s.hall = refuse code s.hall) : refused code :=
      exec_quiet ha ⟨rfl, rfl⟩ e rfl rfl (by decide)
    refine ⟨fun beyond => answers (if_pos beyond),
      fun zero => answers ((if_neg (by omega)).trans (if_pos zero)), fun low high => ⟨?_, ?_, ?_, ?_⟩⟩
    · rintro st rfl beyond
      exact answers (setEntry_formless low high (clientEntryOf_presetter_high beyond))
    · rintro p k v o rfl out
      refine answers (setEntry_formless low high ?_)
      by_cases hp : p.toNat ≤ 15
      · rw [clientEntryOf_machine hp, if_neg (by omega)]
      · exact clientEntryOf_machine_high (by omega)
    · rintro st n other rfl hst ne has
      exact answers (setEntry_stationTaken low high (clientEntryOf_presetter hst) rfl (stationTaken_of_client ne has))
    · intro e valid free change work
      refine answers (setEntry_clientBusy low high valid free change ?_)
      obtain ⟨x, listed, names⟩ | ⟨x, listed, names⟩ | ⟨n, has, gauging⟩ := work
      · exact clientHasWork_of_binding listed names
      · exact clientHasWork_of_ticket listed names
      · exact clientHasWork_of_gauging has gauging

/-! ### Attention -/

theorem flag_index_inj (f g : Flag) : f.index = g.index ↔ f = g := by
  cases f <;> cases g <;> decide

theorem flag_index_lt (f : Flag) : f.index < 7 := by
  cases f <;> decide

theorem setFlag_hasFlag (s : Hall) (f g : Flag) : (setFlag f s).hasFlag g = (decide (f = g) || s.hasFlag g) := by
  simp only [Hall.hasFlag, setFlag_flags, Flag.mask, BitVec.getLsbD_or, BitVec.getLsbD_twoPow, flag_index_lt,
    decide_true, Bool.true_and, flag_index_inj]
  exact Bool.or_comm _ _

/-- A word is not 0 exactly when one of its bits is set. -/
theorem ne_zero_iff_getLsbD {n : Nat} (x : BitVec n) : x ≠ 0#n ↔ ∃ i, i < n ∧ x.getLsbD i = true := by
  constructor
  · intro nonzero
    by_contra unset
    push Not at unset
    exact nonzero (BitVec.eq_of_getLsbD_eq fun i hi => by simpa using unset i hi)
  · rintro ⟨i, -, set⟩ rfl
    simp at set

/-- Settles O21: the two requests by their replies, the flags bit by bit. -/
theorem attentionReportsThenClears : Obligations.AttentionReportsThenClears := by
  refine ⟨fun h s x => ⟨fun ha => ?_, fun ha => ?_⟩, setFlag_hasFlag, fun s => ?_⟩
  · exact exec_quiet ha ⟨rfl, rfl⟩ rfl rfl rfl (by decide)
  · exact exec_quiet ha ⟨rfl, rfl⟩ rfl rfl rfl (by decide)
  · rw [attnLine, decide_eq_true_eq, ne_zero_iff_getLsbD]
    simp only [BitVec.getLsbD_and, Bool.and_eq_true]

/-! ### WIPE -/

/-- A start of the part could be told from work in progress exactly when no station is GAUGING and every channel is IDLE
or OFF (R199). -/
theorem wipeBusy_eq_false_iff {s : Hall} : wipeBusy s = false ↔
    (∀ n, (s.station n).state.isGauging = false) ∧ ∀ c, (s.channel c).state = .idle ∨ (s.channel c).state = .off := by
  refine ⟨wipeBusy_false, fun ⟨idle, settled⟩ => Bool.or_eq_false_iff.mpr ⟨?_, ?_⟩⟩
  · refine List.any_eq_false.mpr fun st listed => ?_
    obtain ⟨n, hn, rfl⟩ := Vector.mem_iff_getElem.mp (Vector.mem_toList_iff.mp listed)
    exact Bool.eq_false_iff.mp (idle ⟨n, hn⟩)
  · refine List.any_eq_false.mpr fun c listed => ?_
    obtain ⟨n, hn, rfl⟩ := Vector.mem_iff_getElem.mp (Vector.mem_toList_iff.mp listed)
    have rest : s.channels[n].state = .idle ∨ s.channels[n].state = .off := settled ⟨n, hn⟩
    simpa [or_iff_not_imp_left] using rest

/-- Settles O23: a hall at rest is emptied, and any other is BUSY. -/
theorem wipeEmptiesTheHall : Obligations.WipeEmptiesTheHall := by
  intro h s ha
  refine ⟨fun idle settled => ?_, fun work => ?_⟩
  · have rest : wipeBusy s.hall = false := wipeBusy_eq_false_iff.mpr ⟨idle, settled⟩
    exact exec_quiet ha ⟨rfl, rfl⟩ (if_neg (Bool.eq_false_iff.mp rest)) rfl rfl (by decide)
  · have busy : wipeBusy s.hall = true := by
      rw [← Bool.not_eq_false, wipeBusy_eq_false_iff]
      rintro ⟨idle, settled⟩
      obtain ⟨n, gauging⟩ | ⟨c, ho, on⟩ := work
      · rw [idle n] at gauging
        cases gauging
      · exact (settled c).elim ho on
    exact exec_quiet ha ⟨rfl, rfl⟩ (if_pos busy) rfl rfl (by decide)

end Sys2Proof.Machine

/-! ## The state after reset -/

namespace Sys2Proof.Machine

/-! A cold start meets every law of the hall: it leaves no entry in any table but client 0's. -/

section Cold

variable (levels : Vector DrawerLevel 16)

theorem cold_station (n : Fin 4) : (Hall.cold levels).station n = Station.cold := by
  simp [Hall.cold, Hall.station, Vector.get_eq_getElem]

theorem cold_channel (c : Fin 16) : (Hall.cold levels).channel c = Channel.cold (levels.get c) := by
  simp [Hall.cold, Hall.channel, Vector.get_eq_getElem]

theorem tablesLaw_cold : TablesLaw (Hall.cold levels) where
  records := wf_nil
  index := wf_nil
  chains := wf_nil
  classes := wf_nil
  tickets := wf_nil
  waitQueues := wf_nil
  bindings := wf_nil
  programs := wf_nil
  clients := List.pairwise_singleton _ _
  chainsListed := by simp [Hall.cold]
  waitQueuesListed := by simp [Hall.cold]
  clientsListed := by simp [Hall.cold]

theorem indexLaw_cold : IndexLaw (Hall.cold levels) := by
  intro tool slot
  simp [Hall.cold]

theorem capacityLaw_cold : CapacityLaw (Hall.cold levels) := by
  constructor <;> simp [Hall.cold]

theorem unitsLaw_cold : UnitsLaw (Hall.cold levels) where
  store := .of_empty rfl rfl (fun _ _ hc => nomatch hc) fun _ _ hc => nomatch hc
  issue := .of_empty rfl rfl rfl (fun _ => rfl) (fun c => by rw [cold_channel]; rfl)
    (fun c => by rw [cold_channel]; rfl) fun c => by rw [cold_channel]; simp [Channel.cold]
  mount := .of_empty rfl fun _ => rfl
  gauge := .of_idle (fun n => by rw [cold_station]; rfl) (fun n => by rw [cold_station]; rfl) (fun _ => rfl)
    (fun n hn => absurd (by rw [cold_station]; rfl) hn) fun n => by rw [cold_station]; rfl

end Cold

theorem portLaw_reset : PortLaw State.reset := by
  have rest : State.reset.port.AtRest := Port.AtRest.afterStart Port.cold
  have driven : drivePins State.reset = State.reset := by decide
  exact driven ▸ rest.drivePins

/-- Settles O7: the reset is a cold start with nothing at the port. -/
theorem resetMeetsEveryLaw : Obligations.ResetMeetsEveryLaw :=
  ⟨portLaw_reset, tablesLaw_cold _, .cold _ State.reset.hall, indexLaw_cold _, capacityLaw_cold _,
    hallLaw_iff.mpr ⟨tablesLaw_cold _, indexLaw_cold _, unitsLaw_cold _⟩⟩

end Sys2Proof.Machine

/-! ## A request's message is read back as the request (R203, R204, R207) -/

namespace Sys2Proof.Machine

/-- Settles O8: each header field is read back from the joined header word, and the body by `decodeBody_bodyWords`. -/
theorem decodingReadsEncodedRequest : Obligations.DecodingReadsEncodedRequest := by
  intro i k h hk hh hw steps
  refine ⟨_, encode_request hk hh, typeOf_headerWord .., clientOf_headerWord .., ?_, bodyLengthOf_encode hw .., ?_⟩
  case refine_1 => rw [kindCodeOf_headerWord, kind_ofCode_code]
  case refine_2 =>
    rw [clientOf_headerWord]
    exact decodeBody_bodyWords hk hh hw steps

end Sys2Proof.Machine
